-- ==== Sys2Proof/Word.lean ====
section
/-! DEFINITION. The word types of TKMIX (spec/00_scope.md R5, R7). Every value of the block is unsigned; `BitVec`
addition is the modular addition the spec asks for. -/

namespace Sys2Proof

/-- `u8`: an entry of TK, TA, RC4KEY; an index of the S-box ROM. -/
abbrev Byte := BitVec 8

/-- `u16`: an entry of P1K, W and the S-box ROM; IV16, SBOX_IN, SBOX_OUT. -/
abbrev Half := BitVec 16

/-- `u32`: a register word on the bus, a command word, IV32. -/
abbrev Word := BitVec 32

/-- The word address `addr[7:2]` of the register window (20_memory.md R44): the byte offset divided by 4. -/
abbrev WordAddr := BitVec 6

end Sys2Proof
end

