-- ==== Sys2Proof/Machine/Operands.lean ====
section
/-! DEFINITION. The helper functions of 00_scope.md R8 to R13 and the register lanes of 20_memory.md R42, R43: how a
command's implicit operands are assembled from bytes and words. -/

namespace Sys2Proof.Machine

/-- `lo8(v) = v[7:0]` (R8). -/
def lo8 (v : Half) : Byte := v.extractLsb' 0 8

/-- `hi8(v) = v[15:8]` (R8). -/
def hi8 (v : Half) : Byte := v.extractLsb' 8 8

/-- `make16(hi, lo)`: the FIRST argument is the high byte (R9; 90_conflicts.md C8). -/
def make16 (hi lo : Byte) : Half := lo.setWidth 16 ^^^ (hi.setWidth 16 <<< 8)

/-- `lo16(w) = w[15:0]` (R10). -/
def lo16 (w : Word) : Half := w.extractLsb' 0 16

/-- `hi16(w) = w[31:16]` (R10). -/
def hi16 (w : Word) : Half := w.extractLsb' 16 16

/-- Addition modulo 2^16; the carry out of bit 15 goes nowhere (R11). -/
def add16 (a b : Half) : Half := a + b

/-- The n-th little-endian word of the Temporal Key (R12). -/
def tk16 (tk : Vector Byte 16) (n : Fin 8) : Half := make16 tk[2 * n.val + 1] tk[2 * n.val]

/-- One-bit right rotation of all 16 bits (R13; 90_conflicts.md C2: the formula governs). -/
def rotR1 (v : Half) : Half := ((v >>> 1) &&& 0x7FFF) ^^^ ((v &&& 1) <<< 15)

/-- The register word that carries bytes `b0` (lowest lane) to `b3` (R42). -/
def packBytes (b0 b1 b2 b3 : Byte) : Word := b3 ++ b2 ++ b1 ++ b0

/-- The register word that carries two 16-bit words, `h0` in bits 15..0 (R43). -/
def packHalves (h0 h1 : Half) : Word := h1 ++ h0

/-- The byte in lane `k` of a register word: bits `8k+7 .. 8k` (R42). -/
def lane (d : Word) (k : Nat) : Byte := d.extractLsb' (8 * k) 8

/-- The n-th register word of a 16-byte array, bytes `4n` to `4n+3` (R42). -/
def arrayWord (a : Vector Byte 16) (n : Fin 4) : Word :=
  packBytes a[4 * n.val] a[4 * n.val + 1] a[4 * n.val + 2] a[4 * n.val + 3]

/-- A 16-byte array with its n-th register word replaced by `d` (20_memory.md R46). -/
def setArrayWord (a : Vector Byte 16) (n : Fin 4) (d : Word) : Vector Byte 16 :=
  (((a.set (4 * n.val) (lane d 0)).set (4 * n.val + 1) (lane d 1)).set (4 * n.val + 2) (lane d 2)).set
    (4 * n.val + 3) (lane d 3)

end Sys2Proof.Machine
end

