-- ==== Sys2Proof/Config.lean ====
section
/-! DEFINITION. What an implementation or the platform fixes and the spec leaves open (00_scope.md R6), and the one
free value of the model. Each is an opaque constant with no body: nothing can be proved about which value it has.
The S-box ROM, whose value the spec supplies, is in Machine/Rom.lean. -/

namespace Sys2Proof

/-- FREE VALUE (log 4). What the hidden buffer `W[0..5]` holds after the n-th PHASE1 or PHASE2 completion: its value
between commands is unspecified (10_state.md R33, 93_implementation_defined.md U8). -/
opaque Config.idleBuffer : Nat → Vector Half 6

/-- OPEN (log 10). `BASE` divided by 256: the register window lies at `256 * basePage`, since BASE is aligned to 256
bytes (00_scope.md R6, 92_eei_decisions.md "Open parameters in one place"). -/
opaque Config.basePage : Nat

/-- OPEN (log 9). `LAT_SBOX`: clock cycles from acceptance to completion, at least 1 (00_scope.md R6). -/
opaque Config.latSbox : ℕ+

/-- OPEN (log 9). `LAT_PHASE1` (00_scope.md R6). -/
opaque Config.latPhase1 : ℕ+

/-- OPEN (log 9). `LAT_PHASE2` (00_scope.md R6). -/
opaque Config.latPhase2 : ℕ+

/-- OPEN (log 9). `LAT_CLR` (00_scope.md R6). -/
opaque Config.latClr : ℕ+

/-- `BASE`, the byte address of the register window in the host's address space (00_scope.md R6). -/
def Config.base : Nat := 256 * Config.basePage

end Sys2Proof
end

