-- ==== Sys2Proof/Syntax.lean ====
section
/-! DEFINITION. The commands of TKMIX, one constructor per row of spec/opcode_table.json (30_encoding.md R61). No
command carries an operand (R64), so no constructor has an argument. -/

namespace Sys2Proof

/-- A command: the block's analogue of an instruction. -/
inductive Instr where
  /-- NOP, 0x00000000: nothing (43_system.md R103). -/
  | nop
  /-- SBOX, 0x00000001: `SBOX_OUT <- S(SBOX_IN)` (40_sbox.md R75). -/
  | sbox
  /-- PHASE1, 0x00000002: `P1K <- phase1(TK, TA, IV32)` (41_phase1.md R80). -/
  | phase1
  /-- PHASE2, 0x00000003: `RC4KEY <- phase2(TK, P1K, IV16)` (42_phase2.md R90). -/
  | phase2
  /-- CLR, 0x00000004: zero the key and data state (43_system.md R104). -/
  | clr
  deriving DecidableEq, Repr

end Sys2Proof
end

