-- ==== Sys2Proof/WellFormed.lean ====
section
/-! DEFINITION. What is well formed: a command (always: it has no field, 30_encoding.md R64), and a host access to an
absolute byte address, which reaches the block only if it is one whole aligned register of the window
(20_memory.md R40, R44; 93_implementation_defined.md U14). -/

namespace Sys2Proof

/-- Every command is well formed: it has no operand field to check (30_encoding.md R60, R64). -/
def Instr.wf : Instr → Bool
  | .nop => true
  | .sbox => true
  | .phase1 => true
  | .phase2 => true
  | .clr => true

/-- A host access as the platform sees it, before it reaches the block: an absolute byte address and a width. -/
structure HostAccess where
  /-- true = write, false = read -/
  wr : Bool
  /-- absolute byte address -/
  addr : Nat
  /-- width in bytes -/
  bytes : Nat
  /-- the value written, ignored by a read -/
  wdata : Word
  deriving DecidableEq, Repr

/-- The access starts inside the 256-byte window at `base` (20_memory.md R40). -/
def HostAccess.inWindow (base : Nat) (a : HostAccess) : Bool := base ≤ a.addr && a.addr < base + 256

/-- The access is naturally aligned (R44). -/
def HostAccess.aligned (base : Nat) (a : HostAccess) : Bool := (a.addr - base) % 4 == 0

/-- The access is one whole 32-bit register (R44). -/
def HostAccess.wide (a : HostAccess) : Bool := a.bytes == 4

/-- The access can be expressed at the block's boundary. -/
def HostAccess.wf (base : Nat) (a : HostAccess) : Bool := a.inWindow base && a.aligned base && a.wide

end Sys2Proof
end

