-- ==== Sys2Proof/Decode.lean ====
section
/-! DEFINITION. Command words (30_encoding.md R60 to R63) and host transactions in format T (R65): decoders, total on
every word, and the encoders written from the same tables. -/

namespace Sys2Proof

/-- Why a word is no command (R63). Either way the block sets ILL (60_exceptions.md R111). -/
inductive DecodeError where
  /-- the reserved field `rsv = c[31:8]` is not zero -/
  | reservedBits
  /-- `rsv` is zero and the opcode `c[7:0]` is 0x05 or more -/
  | unassignedOpcode
  deriving DecidableEq, Repr

/-- The reserved field of format C, bits 31..8 (R60). -/
def rsvField (c : Word) : BitVec 24 := c.extractLsb' 8 24

/-- The opcode field of format C, bits 7..0 (R60). -/
def opField (c : Word) : Byte := c.extractLsb' 0 8

/-- The decoding rule R62, line by line. -/
def decodeWord (c : Word) : Except DecodeError Instr :=
  if rsvField c ≠ 0 then .error .reservedBits
  else if opField c = 0x00 then .ok .nop
  else if opField c = 0x01 then .ok .sbox
  else if opField c = 0x02 then .ok .phase1
  else if opField c = 0x03 then .ok .phase2
  else if opField c = 0x04 then .ok .clr
  else .error .unassignedOpcode

/-- The opcode of a command (R61). -/
def opcodeOf : Instr → Byte
  | .nop => 0x00
  | .sbox => 0x01
  | .phase1 => 0x02
  | .phase2 => 0x03
  | .clr => 0x04

/-- The command word: 24 reserved zero bits above the opcode (R60). -/
def encode (i : Instr) : Word := (0 : BitVec 24) ++ opcodeOf i

/-- The instruction read from a row's bits, numbered as spec/opcode_table.json numbers them. A command is one 32-bit
value (R60); the spec gives the bus no byte order (20_memory.md R43), so there is none to apply (log 11). Bits that
`nbits` does not cover are zero; all commands are 32 bits long (R68), so a longer `nbits` is no command. -/
def decodeTableWord (nbits w : Nat) : Option Instr :=
  if nbits ≤ 32 then
    match decodeWord (BitVec.ofNat 32 (w % 2 ^ nbits)) with
    | .ok i => some i
    | .error _ => none
  else none

/-- A host transaction, format T (R65): `wr = 1` is RegWrite, `wr = 0` is RegRead and `wdata` is ignored. -/
structure Txn where
  wr : Bool
  addr : WordAddr
  wdata : Word
  deriving DecidableEq, Repr

/-- The 39-bit group `wr : addr[7:2] : wdata` (R65). -/
def encodeTxn (t : Txn) : BitVec 39 := BitVec.ofBool t.wr ++ t.addr ++ t.wdata

/-- The fields of the 39-bit group; every group is a legal transaction (R65, 20_memory.md R48). -/
def decodeTxn (g : BitVec 39) : Txn where
  wr := g.getLsbD 38
  addr := g.extractLsb' 32 6
  wdata := g.extractLsb' 0 32

end Sys2Proof
end

