-- ==== Sys2Proof/Machine/State.lean ====
section
/-! DEFINITION. The state of TKMIX as plain data: every element of 10_state.md R20 a field of its own, then three fields
of the model (the events still to come, the read-data output, the counter of the free value). -/

namespace Sys2Proof.Machine

/-- A command that can be pending: all but NOP (10_state.md R32). -/
inductive Op where
  | sbox
  | phase1
  | phase2
  | clr
  deriving DecidableEq, Repr

/-- One event of the total order of 20_memory.md R50. -/
inductive Event where
  /-- a host read or write transaction (30_encoding.md R65) -/
  | host (t : Txn)
  /-- the engine's step: completion of the pending command, if there is one (43_system.md R101) -/
  | complete
  /-- reset (70_reset_and_hazards.md R130) -/
  | reset
  deriving DecidableEq, Repr

/-- The machine's state. Fields `tk` to `w` are the architectural state of R20; BUSY is `pending ≠ none`, not a field
(R29); the two ROMs are constants (R34). -/
structure State where
  /-- Temporal Key, byte 0 first (R21) -/
  tk : Vector Byte 16
  /-- transmitter address, byte 0 first (R22) -/
  ta : Vector Byte 6
  /-- the slow half of the packet IV (R23) -/
  iv32 : Word
  /-- the fast half of the packet IV (R24) -/
  iv16 : Half
  /-- Phase-1 key (R25) -/
  p1k : Vector Half 5
  /-- per-packet RC4 key, byte 0 first (R26) -/
  rc4key : Vector Byte 16
  /-- argument of the SBOX command (R27) -/
  sboxIn : Half
  /-- result of the last completed SBOX command (R28) -/
  sboxOut : Half
  /-- STATUS.DONE (R29) -/
  done : Bool
  /-- STATUS.ILL (R29) -/
  ill : Bool
  /-- STATUS.WERR (R29) -/
  werr : Bool
  /-- CTRL.IE_DONE (R30) -/
  ieDone : Bool
  /-- CTRL.IE_ERR (R30) -/
  ieErr : Bool
  /-- the accepted command that has not completed (R32) -/
  pending : Option Op
  /-- the hidden working buffer `W[0..5]` (R33) -/
  w : Vector Half 6
  /-- MODEL (log 1): the events to come, in the order of 20_memory.md R50 -/
  inputs : List Event
  /-- MODEL (log 3): the value on `rdata` if the last step was a host read (20_memory.md R56) -/
  rdata : Option Word
  /-- MODEL (log 4): how many free values `Config.idleBuffer` has supplied -/
  freeCount : Nat
  deriving DecidableEq, Repr

/-- Why the machine stops with a fault: NO constructor. The block takes no trap and no state of it is a dead end
(60_exceptions.md R110; 93_implementation_defined.md, last paragraph), so nothing raises a fault (log 13). -/
inductive Fault where
  deriving DecidableEq, Repr

/-- Why an instruction has no meaning. -/
inductive Refusal where
  /-- An instruction of the opcode table that the model does not give a meaning, by its mnemonic. Raised by an arm of
  `exec` alone, and by none at present. Safe: the machine stops where the hardware goes on. -/
  | notModelled (mnemonic : String)
  deriving DecidableEq, Repr

/-- The state after reset (10_state.md R36). `w` is unspecified there: DESIGN CHOICE zero (log 5). No event is placed,
nothing has been read (logs 1, 3, 4). -/
def State.reset : State where
  tk := #v[0, 0, 0, 0, 0, 0, 0, 0, 0, 0, 0, 0, 0, 0, 0, 0]
  ta := #v[0, 0, 0, 0, 0, 0]
  iv32 := 0
  iv16 := 0
  p1k := #v[0, 0, 0, 0, 0]
  rc4key := #v[0, 0, 0, 0, 0, 0, 0, 0, 0, 0, 0, 0, 0, 0, 0, 0]
  sboxIn := 0
  sboxOut := 0
  done := false
  ill := false
  werr := false
  ieDone := false
  ieErr := false
  pending := none
  w := #v[0, 0, 0, 0, 0, 0]
  inputs := []
  rdata := none
  freeCount := 0

end Sys2Proof.Machine
end

