-- ==== Sys2Proof/Machine/Flags.lean ====
section
/-! DEFINITION. The flags as software sees them: BUSY, the STATUS and CTRL words, the interrupt output
(10_state.md R29, R30; 60_exceptions.md R114). No arithmetic flag exists. -/

namespace Sys2Proof.Machine

/-- STATUS.BUSY: the predicate `pending != none` (10_state.md R29). -/
def State.busy (s : State) : Bool := s.pending.isSome

/-- `zext_32({WERR, ILL, DONE, BUSY})` (20_memory.md R45). -/
def State.statusWord (s : State) : Word :=
  (BitVec.ofBool s.werr ++ BitVec.ofBool s.ill ++ BitVec.ofBool s.done ++ BitVec.ofBool s.busy).setWidth 32

/-- `zext_32({IE_ERR, IE_DONE})` (20_memory.md R45). -/
def State.ctrlWord (s : State) : Word := (BitVec.ofBool s.ieErr ++ BitVec.ofBool s.ieDone).setWidth 32

/-- The interrupt output (60_exceptions.md R114). BUSY does not enter it. -/
def State.irq (s : State) : Bool := (s.ieDone && s.done) || (s.ieErr && (s.ill || s.werr))

end Sys2Proof.Machine
end

