-- ==== Sys2Proof/Machine/Ops.lean ====
section
/-! DEFINITION. The named operations on the state that the commands and the host transactions share: acceptance and
completion (43_system.md R100, R101), raising and acknowledging an error condition (60_exceptions.md R111, R112, R117,
R118), the CTRL write (R106), the zeroing of CLR (R104), the free value of the working buffer. -/

namespace Sys2Proof.Machine

/-- The command that a pending operation is. -/
def instrOf : Op → Instr
  | .sbox => .sbox
  | .phase1 => .phase1
  | .phase2 => .phase2
  | .clr => .clr

/-- The operation a command makes pending; NOP makes none (10_state.md R32). -/
def opOf : Instr → Option Op
  | .nop => none
  | .sbox => some .sbox
  | .phase1 => some .phase1
  | .phase2 => some .phase2
  | .clr => some .clr

/-- Acceptance of a command: `pending <- op`, `DONE <- 0` (43_system.md R100). It computes nothing. -/
def State.accept (op : Op) (s : State) : State := { s with pending := some op, done := false }

/-- The end of every completion: `pending <- none`, `DONE <- 1` (43_system.md R101). -/
def State.finish (s : State) : State := { s with pending := none, done := true }

/-- The two error conditions of 60_exceptions.md R110. -/
inductive ErrorCondition where
  /-- a CMD write while not BUSY whose word is no command (R111) -/
  | illegalCommand
  /-- a write to WBLK while BUSY (R112) -/
  | writeWhileBusy
  deriving DecidableEq, Repr

/-- The cause code of an error condition: its STATUS bit (R110). -/
def causeCode : ErrorCondition → Nat
  | .illegalCommand => 2
  | .writeWhileBusy => 3

/-- "Trap entry": raising an error condition sets its sticky flag and does nothing else (R111, R112, R117). -/
def State.raise (e : ErrorCondition) (s : State) : State :=
  match e with
  | .illegalCommand => { s with ill := true }
  | .writeWhileBusy => { s with werr := true }

/-- "Trap return": a STATUS write clears each of DONE, ILL, WERR whose bit is 1 in `d` and ignores the other bits of `d`
(43_system.md R105, 60_exceptions.md R118). -/
def State.ackStatus (d : Word) (s : State) : State :=
  { s with
    done := s.done && !d.getLsbD 1
    ill := s.ill && !d.getLsbD 2
    werr := s.werr && !d.getLsbD 3 }

/-- A CTRL write: `IE_DONE <- d[0]`, `IE_ERR <- d[1]` (43_system.md R106). -/
def State.setCtrl (d : Word) (s : State) : State := { s with ieDone := d.getLsbD 0, ieErr := d.getLsbD 1 }

/-- The zeroing of CLR: every key and data register and W; not CTRL, ILL, WERR (43_system.md R104). -/
def State.clearData (s : State) : State :=
  { s with
    tk := State.reset.tk
    ta := State.reset.ta
    iv32 := 0
    iv16 := 0
    p1k := State.reset.p1k
    rc4key := State.reset.rc4key
    sboxIn := 0
    sboxOut := 0
    w := #v[0, 0, 0, 0, 0, 0] }

/-- A command that used the working buffer leaves a free value in it (10_state.md R33, log 4). -/
def State.leaveBuffer (s : State) : State :=
  { s with w := Config.idleBuffer s.freeCount, freeCount := s.freeCount + 1 }

/-- Reset: every element of R20 takes its value of 10_state.md R36; nothing of a pending command is committed
(70_reset_and_hazards.md R130, R132). The events to come and the count of free values are no part of the block. -/
def State.applyReset (s : State) : State := { State.reset with inputs := s.inputs, freeCount := s.freeCount }

/-- The state a step works on: the first event taken off the list, no read data on the output yet (logs 1, 3). -/
def State.next (rest : List Event) (s : State) : State := { s with inputs := rest, rdata := none }

/-- The read data output carries `v` (20_memory.md R56, log 3). -/
def State.putRdata (v : Word) (s : State) : State := { s with rdata := some v }

end Sys2Proof.Machine
end

