-- ==== Sys2Proof/Machine/Sbox.lean ====
section
/-! DEFINITION. The S-box lookup engine and the SBOX command (40_sbox.md). -/

namespace Sys2Proof.Machine

/-- `S(v) = SBOX0[lo8(v)] XOR SBOX1[hi8(v)]` (40_sbox.md R70). -/
def sboxLookup (v : Half) : Half := sbox0 (lo8 v) ^^^ sbox1 (hi8 v)

/-- SBOX: `SBOX_OUT <- S(SBOX_IN)` at completion (40_sbox.md R75). -/
def execSbox (s : State) : Host.Outcome State Fault Refusal :=
  .next { s with sboxOut := sboxLookup s.sboxIn }.finish

end Sys2Proof.Machine
end

