-- ==== Sys2Proof/Machine/Phase1.lean ====
section
/-! DEFINITION. The Phase-1 key mixer and the PHASE1 command (41_phase1.md). The mixer takes the S-box as an argument
(92_eei_decisions.md D16): statements about its structure do not depend on the ROM. -/

namespace Sys2Proof.Machine

/-- Initialisation of `W[0..4]` (41_phase1.md R81). -/
def phase1Init (ta : Vector Byte 6) (iv32 : Word) : Vector Half 5 :=
  #v[lo16 iv32, hi16 iv32, make16 ta[1] ta[0], make16 ta[3] ta[2], make16 ta[5] ta[4]]

/-- The key word index `j + m` of a round, `j = i & 1` (41_phase1.md R83, R88). -/
def roundKey (i : Fin 8) (m : Fin 7) : Fin 8 := ⟨i.val % 2 + m.val, by omega⟩

/-- One update of a round: the target word gains `S(source word XOR key word)` (41_phase1.md R83). -/
def phase1Mix (S : Half → Half) (key : Half) (target source : Fin 5) (w : Vector Half 5) : Vector Half 5 :=
  w.set target (add16 w[target] (S (w[source] ^^^ key)))

/-- One round: six updates, strictly in this order, each on the values the earlier ones have written
(41_phase1.md R83; 90_conflicts.md C4). -/
def phase1Round (S : Half → Half) (tk : Vector Byte 16) (w : Vector Half 5) (i : Fin 8) : Vector Half 5 :=
  let w := phase1Mix S (tk16 tk (roundKey i 0)) 0 4 w
  let w := phase1Mix S (tk16 tk (roundKey i 2)) 1 0 w
  let w := phase1Mix S (tk16 tk (roundKey i 4)) 2 1 w
  let w := phase1Mix S (tk16 tk (roundKey i 6)) 3 2 w
  let w := phase1Mix S (tk16 tk (roundKey i 0)) 4 3 w
  w.set 4 (add16 w[4] (BitVec.ofNat 16 i.val))

/-- `phase1(TK, TA, IV32)` over an S-box `S`: eight rounds in increasing order of the index (41_phase1.md R80, R84). -/
def phase1With (S : Half → Half) (tk : Vector Byte 16) (ta : Vector Byte 6) (iv32 : Word) : Vector Half 5 :=
  [0, 1, 2, 3, 4, 5, 6, 7].foldl (phase1Round S tk) (phase1Init ta iv32)

/-- `phase1(TK, TA, IV32)` (00_scope.md R3). -/
def phase1 (tk : Vector Byte 16) (ta : Vector Byte 6) (iv32 : Word) : Vector Half 5 :=
  phase1With sboxLookup tk ta iv32

/-- PHASE1: `P1K <- phase1(TK, TA, IV32)` at completion, all five words at once (41_phase1.md R80, R85); the working
buffer is left with a free value (10_state.md R33, log 4). -/
def execPhase1 (s : State) : Host.Outcome State Fault Refusal :=
  .next { s with p1k := phase1 s.tk s.ta s.iv32 }.leaveBuffer.finish

end Sys2Proof.Machine
end

