-- ==== Sys2Proof/Machine/Phase2.lean ====
section
/-! DEFINITION. The Phase-2 key mixer and the PHASE2 command (42_phase2.md). The mixer takes the S-box as an argument
(92_eei_decisions.md D16). -/

namespace Sys2Proof.Machine

/-- Step 1, load: `P1K` and, in word 5, `P1K[4] + IV16` (42_phase2.md R91). -/
def phase2Load (p1k : Vector Half 5) (iv16 : Half) : Vector Half 6 :=
  #v[p1k[0], p1k[1], p1k[2], p1k[3], p1k[4], add16 p1k[4] iv16]

/-- The word before `k` in the ring of six: `W[(k+5) mod 6]` (42_phase2.md R92). -/
def prevWord (k : Fin 6) (w : Vector Half 6) : Half := w[(k.val + 5) % 6]

/-- One update of the non-linear pass: `W[k] += S(W[(k+5) mod 6] XOR TK16(k))` (42_phase2.md R92). -/
def nonlinearStep (S : Half → Half) (tk : Vector Byte 16) (w : Vector Half 6) (k : Fin 6) : Vector Half 6 :=
  w.set k (add16 w[k] (S (prevWord k w ^^^ tk16 tk ⟨k.val, by omega⟩)))

/-- Step 2, the non-linear pass: six updates in order (42_phase2.md R92, R97). -/
def nonlinearPass (S : Half → Half) (tk : Vector Byte 16) (w : Vector Half 6) : Vector Half 6 :=
  [0, 1, 2, 3, 4, 5].foldl (nonlinearStep S tk) w

/-- What is rotated in update `k` of the linear pass: the word before it, with `TK16(6)` and `TK16(7)` mixed into the
first two only (42_phase2.md R93). -/
def linearInput (tk : Vector Byte 16) (k : Fin 6) (w : Vector Half 6) : Half :=
  match k with
  | 0 => prevWord 0 w ^^^ tk16 tk 6
  | 1 => prevWord 1 w ^^^ tk16 tk 7
  | k => prevWord k w

/-- One update of the linear pass: `W[k] += RotR1(...)` (42_phase2.md R93). -/
def linearStep (tk : Vector Byte 16) (w : Vector Half 6) (k : Fin 6) : Vector Half 6 :=
  w.set k (add16 w[k] (rotR1 (linearInput tk k w)))

/-- Step 3, the linear pass: six updates in order (42_phase2.md R93, R97). -/
def linearPass (tk : Vector Byte 16) (w : Vector Half 6) : Vector Half 6 :=
  [0, 1, 2, 3, 4, 5].foldl (linearStep tk) w

/-- The weak-key-avoidance byte `RC4KEY[1]`: OR first, AND second (42_phase2.md R94). -/
def fmsByte (b : Byte) : Byte := (b ||| 0x20) &&& 0x7F

/-- Step 4, assembly of the sixteen bytes (42_phase2.md R94; 90_conflicts.md C3, C6). -/
def assembleKey (w : Vector Half 6) (tk : Vector Byte 16) (iv16 : Half) : Vector Byte 16 :=
  #v[hi8 iv16, fmsByte (hi8 iv16), lo8 iv16, lo8 ((w[5] ^^^ tk16 tk 0) >>> 1),
     lo8 w[0], hi8 w[0], lo8 w[1], hi8 w[1], lo8 w[2], hi8 w[2],
     lo8 w[3], hi8 w[3], lo8 w[4], hi8 w[4], lo8 w[5], hi8 w[5]]

/-- The final working buffer of Phase 2 over an S-box `S` (42_phase2.md R91 to R93). -/
def phase2Buffer (S : Half → Half) (tk : Vector Byte 16) (p1k : Vector Half 5) (iv16 : Half) : Vector Half 6 :=
  linearPass tk (nonlinearPass S tk (phase2Load p1k iv16))

/-- `phase2(TK, P1K, IV16)` over an S-box `S` (42_phase2.md R90). -/
def phase2With (S : Half → Half) (tk : Vector Byte 16) (p1k : Vector Half 5) (iv16 : Half) : Vector Byte 16 :=
  assembleKey (phase2Buffer S tk p1k iv16) tk iv16

/-- `phase2(TK, P1K, IV16)` (00_scope.md R3). -/
def phase2 (tk : Vector Byte 16) (p1k : Vector Half 5) (iv16 : Half) : Vector Byte 16 :=
  phase2With sboxLookup tk p1k iv16

/-- PHASE2: `RC4KEY <- phase2(TK, P1K, IV16)` at completion, all sixteen bytes at once, whatever P1K holds
(42_phase2.md R90, R95, R98); the working buffer is left with a free value (10_state.md R33, log 4). -/
def execPhase2 (s : State) : Host.Outcome State Fault Refusal :=
  .next { s with rc4key := phase2 s.tk s.p1k s.iv16 }.leaveBuffer.finish

end Sys2Proof.Machine
end

