-- ==== Sys2Proof/Machine/System.lean ====
section
/-! DEFINITION. The two commands that are not in the source document, NOP and CLR (43_system.md R103, R104). -/

namespace Sys2Proof.Machine

/-- NOP: nothing changes; it has no completion step (43_system.md R103). -/
def execNop (s : State) : Host.Outcome State Fault Refusal := .next s

/-- CLR: zero the key and data state at completion (43_system.md R104). -/
def execClr (s : State) : Host.Outcome State Fault Refusal := .next s.clearData.finish

end Sys2Proof.Machine
end

