-- ==== Sys2Proof/Machine/Dispatch.lean ====
section
/-! DEFINITION. One arm per command: its effect when the engine executes it (log 7). -/

namespace Sys2Proof.Machine

def exec (i : Instr) (s : State) : Host.Outcome State Fault Refusal :=
  match i with
  | .nop => Sys2Proof.Machine.execNop s
  | .sbox => Sys2Proof.Machine.execSbox s
  | .phase1 => Sys2Proof.Machine.execPhase1 s
  | .phase2 => Sys2Proof.Machine.execPhase2 s
  | .clr => Sys2Proof.Machine.execClr s

end Sys2Proof.Machine
end

