-- ==== Sys2Proof/Machine/RegMap.lean ====
section
/-! DEFINITION. The register map (20_memory.md R41) and the set WBLK of offsets whose writes are dropped while BUSY
(R47). -/

namespace Sys2Proof.Machine

/-- A register of the window, by its name in R41. -/
inductive Reg where
  | cmd
  | status
  | ctrl
  | tk (n : Fin 4)
  | ta0
  | ta1
  | iv32
  | iv16
  | p1k0
  | p1k1
  | p1k2
  | rc4key (n : Fin 4)
  | sboxIn
  | sboxOut
  /-- offsets 0x0C, 0x3C, 0x58 to 0xFC: read 0, writes ignored (R48) -/
  | reserved
  deriving DecidableEq, Repr

/-- The rows of R41 that name a register: byte offset from BASE, register. -/
def regMap : List (Nat × Reg) :=
  [(0x00, .cmd), (0x04, .status), (0x08, .ctrl),
   (0x10, .tk 0), (0x14, .tk 1), (0x18, .tk 2), (0x1C, .tk 3),
   (0x20, .ta0), (0x24, .ta1), (0x28, .iv32), (0x2C, .iv16),
   (0x30, .p1k0), (0x34, .p1k1), (0x38, .p1k2),
   (0x40, .rc4key 0), (0x44, .rc4key 1), (0x48, .rc4key 2), (0x4C, .rc4key 3),
   (0x50, .sboxIn), (0x54, .sboxOut)]

/-- The byte offset of a word address (R44). -/
def byteOffset (a : WordAddr) : Nat := 4 * a.toNat

/-- The register at a word address; an offset without a row is reserved (R41, R48). -/
def regAt (a : WordAddr) : Reg := (regMap.lookup (byteOffset a)).getD .reserved

/-- The word address of a named register, the inverse of `regAt`; byte offset 0x0C stands for the reserved ones. -/
def addrOf : Reg → WordAddr
  | .cmd => 0x00
  | .status => 0x01
  | .ctrl => 0x02
  | .tk n => 0x04 + BitVec.ofNat 6 n.val
  | .ta0 => 0x08
  | .ta1 => 0x09
  | .iv32 => 0x0A
  | .iv16 => 0x0B
  | .p1k0 => 0x0C
  | .p1k1 => 0x0D
  | .p1k2 => 0x0E
  | .rc4key n => 0x10 + BitVec.ofNat 6 n.val
  | .sboxIn => 0x14
  | .sboxOut => 0x15
  | .reserved => 0x03

/-- WBLK: CMD and every host-writable operand register, by byte offset (R47). -/
def wblk : List Nat := [0x00, 0x10, 0x14, 0x18, 0x1C, 0x20, 0x24, 0x28, 0x2C, 0x30, 0x34, 0x38, 0x50]

/-- The word address lies in WBLK. -/
def inWblk (a : WordAddr) : Bool := wblk.contains (byteOffset a)

end Sys2Proof.Machine
end

