-- ==== Sys2Proof/Machine/Registers.lean ====
section
/-! DEFINITION. Host reads and operand writes, register by register (20_memory.md R45, R46). The writes of CMD, STATUS
and CTRL and the BUSY rule are in Machine/Bus.lean. -/

namespace Sys2Proof.Machine

/-- The value of a register as a host read returns it (20_memory.md R45). -/
def readReg (r : Reg) (s : State) : Word :=
  match r with
  | .cmd => 0
  | .status => s.statusWord
  | .ctrl => s.ctrlWord
  | .tk n => arrayWord s.tk n
  | .ta0 => packBytes s.ta[0] s.ta[1] s.ta[2] s.ta[3]
  | .ta1 => packBytes s.ta[4] s.ta[5] 0 0
  | .iv32 => s.iv32
  | .iv16 => s.iv16.setWidth 32
  | .p1k0 => packHalves s.p1k[0] s.p1k[1]
  | .p1k1 => packHalves s.p1k[2] s.p1k[3]
  | .p1k2 => s.p1k[4].setWidth 32
  | .rc4key n => arrayWord s.rc4key n
  | .sboxIn => s.sboxIn.setWidth 32
  | .sboxOut => s.sboxOut.setWidth 32
  | .reserved => 0

/-- `RegRead(off)`, a function of the state without side effect (20_memory.md R45). -/
def regRead (a : WordAddr) (s : State) : Word := readReg (regAt a) s

/-- The write of an operand register while not BUSY (20_memory.md R46). A read-only or reserved register ignores it; the
three control registers are not written here. -/
def writeOperand (r : Reg) (d : Word) (s : State) : State :=
  match r with
  | .tk n => { s with tk := setArrayWord s.tk n d }
  | .ta0 => { s with ta := (((s.ta.set 0 (lane d 0)).set 1 (lane d 1)).set 2 (lane d 2)).set 3 (lane d 3) }
  | .ta1 => { s with ta := (s.ta.set 4 (lane d 0)).set 5 (lane d 1) }
  | .iv32 => { s with iv32 := d }
  | .iv16 => { s with iv16 := lo16 d }
  | .p1k0 => { s with p1k := (s.p1k.set 0 (lo16 d)).set 1 (hi16 d) }
  | .p1k1 => { s with p1k := (s.p1k.set 2 (lo16 d)).set 3 (hi16 d) }
  | .p1k2 => { s with p1k := s.p1k.set 4 (lo16 d) }
  | .sboxIn => { s with sboxIn := lo16 d }
  | .cmd => s
  | .status => s
  | .ctrl => s
  | .rc4key _ => s
  | .sboxOut => s
  | .reserved => s

end Sys2Proof.Machine
end

