-- ==== Sys2Proof/Machine/Bus.lean ====
section
/-! DEFINITION. What each event does: host transactions (20_memory.md R45 to R47), the issue of a command
(43_system.md R100), the engine's completion (R101) and reset (70_reset_and_hazards.md R130). -/

namespace Sys2Proof.Machine

/-- A CMD write of a legal command while not BUSY: NOP is done at once, any other command becomes pending
(43_system.md R100, R103). -/
def issue (i : Instr) (s : State) : Host.Outcome State Fault Refusal :=
  match opOf i with
  | none => exec i s
  | some op => .next (s.accept op)

/-- A CMD write while not BUSY: decode, then issue or raise ILL (43_system.md R100, 60_exceptions.md R111). -/
def writeCmd (c : Word) (s : State) : Host.Outcome State Fault Refusal :=
  match decodeWord c with
  | .ok i => issue i s
  | .error _ => .next (s.raise .illegalCommand)

/-- `RegWrite(off, d)` while not BUSY (20_memory.md R46). -/
def writeIdle (a : WordAddr) (d : Word) (s : State) : Host.Outcome State Fault Refusal :=
  match regAt a with
  | .cmd => writeCmd d s
  | .status => .next (s.ackStatus d)
  | .ctrl => .next (s.setCtrl d)
  | r => .next (writeOperand r d s)

/-- `RegWrite(off, d)` while BUSY: a write to WBLK is dropped with WERR, STATUS and CTRL are written as ever, the rest is
ignored (20_memory.md R47). -/
def writeBusy (a : WordAddr) (d : Word) (s : State) : Host.Outcome State Fault Refusal :=
  if inWblk a then .next (s.raise .writeWhileBusy)
  else
    match regAt a with
    | .status => .next (s.ackStatus d)
    | .ctrl => .next (s.setCtrl d)
    | _ => .next s

/-- `RegWrite(off, d)`: the BUSY test comes first (60_exceptions.md R116). -/
def regWrite (a : WordAddr) (d : Word) (s : State) : Host.Outcome State Fault Refusal :=
  if s.busy then writeBusy a d s else writeIdle a d s

/-- A host transaction (30_encoding.md R65). A read puts its value on `rdata` and changes nothing else. -/
def hostTransaction (t : Txn) (s : State) : Host.Outcome State Fault Refusal :=
  if t.wr then regWrite t.addr t.wdata s else .next (s.putRdata (regRead t.addr s))

/-- The engine's step: the pending command is executed; with nothing pending nothing happens (43_system.md R101). -/
def completePending (s : State) : Host.Outcome State Fault Refusal :=
  match s.pending with
  | some op => exec (instrOf op) s
  | none => .next s

/-- One event of the total order, taken completely and at once (20_memory.md R50). -/
def handle (e : Event) (s : State) : Host.Outcome State Fault Refusal :=
  match e with
  | .host t => hostTransaction t s
  | .complete => completePending s
  | .reset => .next s.applyReset

/-- The next event: the first of the list; with no event left the engine moves, so that every pending command completes
(43_system.md R102, log 2). -/
def takeEvent (s : State) : Host.Outcome State Fault Refusal :=
  match s.inputs with
  | [] => completePending (s.next [])
  | e :: rest => handle e (s.next rest)

/-- A list of events one after another, stopping where one does not answer a next state. -/
def handleAll : List Event → State → Host.Outcome State Fault Refusal
  | [], s => .next s
  | e :: es, s =>
    match handle e s with
    | .next s' => handleAll es s'
    | .fault r => .fault r
    | .refused r => .refused r

/-- The bus event of writing the word `c` to CMD (30_encoding.md R66, `CMD`). -/
def cmdWrite (c : Word) : Event := .host { wr := true, addr := addrOf .cmd, wdata := c }

/-- `s` with the command of an opcode-table row placed so that the next step runs it (log 8): a command that becomes
pending stands accepted, its completion the next event; NOP, and a word that is no command, is the next CMD write. -/
def placeCommand (s : State) (nbits w : Nat) : State :=
  match (decodeTableWord nbits w).bind opOf with
  | some op => { s.accept op with inputs := .complete :: s.inputs }
  | none => { s with pending := none, inputs := cmdWrite (BitVec.ofNat 32 (w % 2 ^ nbits)) :: s.inputs }

end Sys2Proof.Machine
end

