-- ==== Sys2Proof/Machine/Step.lean ====
section
/-! DEFINITION. One step of the machine: one event of the total order of 20_memory.md R50. -/

namespace Sys2Proof.Machine

/-- One step takes the next event (Machine/Bus.lean). -/
def step (s : State) : Host.Outcome State Fault Refusal := takeEvent s

/-- `s` with an opcode-table row's command placed where the next step runs it (log 8). -/
def State.withFetchWord (s : State) (nbits w : Nat) : State := placeCommand s nbits w

end Sys2Proof.Machine
end

