-- ==== Sys2Proof/Machine/Clock.lean ====
section
/-! DEFINITION. The block at clock edges: the pins (20_memory.md R56), the order of a transaction and a completion on one
edge (R51), the latency of a command (43_system.md R102). It is built from the events of Machine/Bus.lean; `step` does not
depend on it (20_memory.md R56, last sentence). -/

namespace Sys2Proof.Machine

/-- The input pins at a rising edge (R56). -/
structure Pins where
  /-- active-low reset -/
  rstN : Bool
  /-- a transaction this cycle -/
  sel : Bool
  /-- `wr`, `addr[7:2]`, `wdata` -/
  txn : Txn
  deriving DecidableEq, Repr

/-- A host access at an absolute byte address becomes a transaction if it is well formed; any other access does not
reach the block (20_memory.md R44; 93_implementation_defined.md U14, log 10). -/
def txnOfAccess (base : Nat) (a : HostAccess) : Option Txn :=
  if a.wf base then some { wr := a.wr, addr := BitVec.ofNat 6 ((a.addr - base) / 4), wdata := a.wdata } else none

/-- The pins of a cycle out of reset in which the platform presents an access (log 10). -/
def pinsOfAccess (base : Nat) (a : HostAccess) : Pins :=
  match txnOfAccess base a with
  | some t => { rstN := true, sel := true, txn := t }
  | none => { rstN := true, sel := false, txn := { wr := false, addr := 0, wdata := 0 } }

/-- The pins of an access at an absolute address of the platform, `Config.base` (00_scope.md R6). -/
def platformPins (a : HostAccess) : Pins := pinsOfAccess Config.base a

/-- The events of one rising edge: in reset nothing but the reset (70_reset_and_hazards.md R130); else the host
transaction first and the completion after it (20_memory.md R51). The edge at which reset is left, the first one with
`rst_n = 1`, counts as out of reset: its transaction takes effect. The spec does not say so; DESIGN CHOICE (log 16). -/
def edgeEvents (due : Bool) (p : Pins) : List Event :=
  if p.rstN then (if p.sel then [.host p.txn] else []) ++ (if due then [.complete] else []) else [.reset]

/-- The block with the engine's cycle count toward the latency (10_state.md R32). -/
structure Clocked where
  state : State
  /-- edges since the acceptance of the pending command -/
  age : Nat
  deriving DecidableEq, Repr

/-- The pending command completes on this edge: it is the `LAT_op`-th after its acceptance (43_system.md R102). -/
def Clocked.due (lat : Op → Nat) (c : Clocked) : Bool :=
  match c.state.pending with
  | some op => lat op ≤ c.age + 1
  | none => false

/-- The cycle count after an edge: one more while the same command stays pending, else 0. -/
def Clocked.nextAge (lat : Op → Nat) (p : Pins) (c : Clocked) : Nat :=
  if c.state.busy && p.rstN && !c.due lat then c.age + 1 else 0

/-- One rising edge of `clk` with latencies `lat`. -/
def clockEdge (lat : Op → Nat) (p : Pins) (c : Clocked) : Host.Outcome Clocked Fault Refusal :=
  match handleAll (edgeEvents (c.due lat) p) (c.state.next c.state.inputs) with
  | .next s' => .next { state := s', age := c.nextAge lat p }
  | .fault r => .fault r
  | .refused r => .refused r

/-- Several edges one after another. -/
def clockEdges (lat : Op → Nat) : List Pins → Clocked → Host.Outcome Clocked Fault Refusal
  | [], c => .next c
  | p :: ps, c =>
    match clockEdge lat p c with
    | .next c' => clockEdges lat ps c'
    | .fault r => .fault r
    | .refused r => .refused r

/-- The latencies of the implementation: open, each at least 1 (00_scope.md R6, log 9). -/
def implLatency : Op → Nat
  | .sbox => Config.latSbox
  | .phase1 => Config.latPhase1
  | .phase2 => Config.latPhase2
  | .clr => Config.latClr

/-- The `irq` pin: 0 during reset (70_reset_and_hazards.md R130), else the level of 60_exceptions.md R114. -/
def irqPin (p : Pins) (s : State) : Bool := p.rstN && s.irq

end Sys2Proof.Machine
end

