-- ==== Sys2Proof/Machine/HostNotation.lean ====
section
/-! DEFINITION. The notation for host programs (30_encoding.md R66, R67): each line as the events it stands for. -/

namespace Sys2Proof.Machine

/-- A line of a host program. -/
inductive Line where
  /-- `WR <reg>, <value>`; a literal offset `@0xNN` is its word address -/
  | wr (a : WordAddr) (v : Word)
  /-- `RD <reg>` -/
  | rd (a : WordAddr)
  /-- `CMD <mnemonic>` -/
  | cmd (i : Instr)
  /-- `LDTK b0 ... b15` -/
  | ldtk (b : Vector Byte 16)
  /-- `LDTA a0 ... a5` -/
  | ldta (a : Vector Byte 6)
  /-- `LDP1K p0 ... p4` -/
  | ldp1k (p : Vector Half 5)
  /-- `RDKEY` -/
  | rdkey
  /-- `RDP1K` -/
  | rdp1k
  /-- `ACK <mask>` -/
  | ack (mask : Word)
  /-- `WAIT`, the engine completing after `polls` reads that show BUSY (log 15) -/
  | wait (polls : Nat)
  deriving DecidableEq, Repr

/-- A register write on the bus. -/
def busWrite (a : WordAddr) (v : Word) : Event := .host { wr := true, addr := a, wdata := v }

/-- A register read on the bus. -/
def busRead (a : WordAddr) : Event := .host { wr := false, addr := a, wdata := 0 }

/-- The events of a line (30_encoding.md R66, R67). -/
def lineEvents : Line → List Event
  | .wr a v => [busWrite a v]
  | .rd a => [busRead a]
  | .cmd i => [cmdWrite (encode i)]
  | .ldtk b => [0, 1, 2, 3].map fun n => busWrite (addrOf (.tk n)) (arrayWord b n)
  | .ldta a => [busWrite (addrOf .ta0) (packBytes a[0] a[1] a[2] a[3]), busWrite (addrOf .ta1) (packBytes a[4] a[5] 0 0)]
  | .ldp1k p =>
    [busWrite (addrOf .p1k0) (packHalves p[0] p[1]), busWrite (addrOf .p1k1) (packHalves p[2] p[3]),
      busWrite (addrOf .p1k2) (packHalves p[4] 0)]
  | .rdkey => [0, 1, 2, 3].map fun n => busRead (addrOf (.rc4key n))
  | .rdp1k => [busRead (addrOf .p1k0), busRead (addrOf .p1k1), busRead (addrOf .p1k2)]
  | .ack mask => [busWrite (addrOf .status) mask]
  | .wait polls => List.replicate polls (busRead (addrOf .status)) ++ [.complete, busRead (addrOf .status)]

/-- The events of a host program, its lines in order. -/
def programEvents (ls : List Line) : List Event := ls.flatMap lineEvents

end Sys2Proof.Machine
end

