-- ==== Sys2Proof/Safety.lean ====
section
/-! DEFINITION. The terms the statements use: runs of the machine, the data registers taken together, the invariant of
the flags, a current Phase-1 key, the host's writes that count. -/

namespace Sys2Proof.Machine

/-- `k` steps lead from `s` to `t`, each answering a next state. -/
def Reaches : Nat → State → State → Prop
  | 0, s, t => s = t
  | k + 1, s, t => ∃ u, step s = .next u ∧ Reaches k u t

/-- The eight key and data registers of 10_state.md R21 to R28 are the same. -/
abbrev SameData (s t : State) : Prop :=
  s.tk = t.tk ∧ s.ta = t.ta ∧ s.iv32 = t.iv32 ∧ s.iv16 = t.iv16 ∧ s.p1k = t.p1k ∧ s.rc4key = t.rc4key ∧
    s.sboxIn = t.sboxIn ∧ s.sboxOut = t.sboxOut

/-- The four flags and enables that no command touches are the same: ILL, WERR, IE_DONE, IE_ERR. -/
abbrev SameControl (s t : State) : Prop :=
  s.ill = t.ill ∧ s.werr = t.werr ∧ s.ieDone = t.ieDone ∧ s.ieErr = t.ieErr

/-- BUSY and DONE are never both set: acceptance clears DONE, only a completion sets it (43_system.md R100, R101). -/
abbrev BusyNotDone (s : State) : Prop := s.pending ≠ none → s.done = false

/-- P1K is the Phase-1 key of the operands now in the block (70_reset_and_hazards.md R137). The block does not track
this (10_state.md R35). -/
abbrev P1kCurrent (s : State) : Prop := s.p1k = phase1 s.tk s.ta s.iv32

/-- The next event is a host write of `d` to the register at `a`. -/
def NextIsWrite (s : State) (a : WordAddr) (d : Word) : Prop :=
  ∃ t rest, s.inputs = .host t :: rest ∧ t.wr = true ∧ t.addr = a ∧ t.wdata = d

/-- The next event is an accepted write of one of the registers in `rs`: the block is not BUSY (20_memory.md R46). -/
def NextWritesOneOf (s : State) (rs : List Reg) : Prop :=
  s.pending = none ∧ ∃ a d, NextIsWrite s a d ∧ regAt a ∈ rs

/-- The next event is a reset. -/
def NextIsReset (s : State) : Prop := ∃ rest, s.inputs = .reset :: rest

/-- The next step is the completion of `op`: its event is next, or no event is left (43_system.md R101, log 2). -/
def NextCompletes (s : State) (op : Op) : Prop :=
  s.pending = some op ∧ (s.inputs = [] ∨ ∃ rest, s.inputs = .complete :: rest)

end Sys2Proof.Machine
end

