-- ==== Sys2Proof/Certificates/Slice0/Obligations.lean ====
section
/-! DEFINITION. The statements for the provers, from the numbered rules of spec/. "Model's choice" in a docstring names
what rests on an entry of the assumption log. -/

open Sys2Proof Sys2Proof.Machine

/-! Encoding -/

/-- R61 to R63: a word decodes to a command exactly when it is that command's word; every other word is illegal, by the
reserved bits or by the opcode. -/
def Obligations.CommandWordsDecodeExactly : Prop :=
  (∀ (c : Word) (i : Instr), decodeWord c = .ok i ↔ c = encode i) ∧
  (∀ c : Word, decodeWord c = .error .reservedBits ↔ 256 ≤ c.toNat) ∧
  (∀ c : Word, decodeWord c = .error .unassignedOpcode ↔ 5 ≤ c.toNat ∧ c.toNat < 256)

/-- R61, R63: the words of the opcode map, written out, and illegal neighbours. Model's choice (log 11): a row's bits are
the command value itself, no byte order applied; the two `decodeTableWord` clauses rest on it. -/
def Obligations.OpcodeMapWords : Prop :=
  decodeWord 0x00000000 = .ok .nop ∧ decodeWord 0x00000001 = .ok .sbox ∧ decodeWord 0x00000002 = .ok .phase1 ∧
  decodeWord 0x00000003 = .ok .phase2 ∧ decodeWord 0x00000004 = .ok .clr ∧
  decodeWord 0x00000005 = .error .unassignedOpcode ∧ decodeWord 0x00000102 = .error .reservedBits ∧
  decodeTableWord 32 3 = some .phase2 ∧ decodeTableWord 32 0x80000003 = none

/-- R65: the 39-bit group of a transaction and the transaction determine each other, for every transaction and every
group, and the group's fields lie where the rule puts them. -/
def Obligations.TransactionGroupRoundTrip : Prop :=
  (∀ t : Txn, decodeTxn (encodeTxn t) = t) ∧
  (∀ g : BitVec 39, encodeTxn (decodeTxn g) = g) ∧
  (∀ t : Txn, (encodeTxn t).toNat = (if t.wr then 2 ^ 38 else 0) + t.addr.toNat * 2 ^ 32 + t.wdata.toNat)

/-! A step runs the decoded command -/

/-- R101: with a command pending, the completion event (or, model's choice of log 2, no event left) executes exactly that
command on the state without the event. -/
def Obligations.StepExecutesThePendingCommand : Prop :=
  ∀ (s : State) (op : Op), s.pending = some op →
    (∀ rest, s.inputs = .complete :: rest →
      step s = exec (instrOf op) { s with inputs := rest, rdata := none }) ∧
    (s.inputs = [] → step s = exec (instrOf op) { s with inputs := [], rdata := none })

/-- R100, R101: when the word of a CMD write on an idle block decodes to a command, NOP is executed by that very step;
any other command is accepted (`pending` set, DONE cleared, nothing else) and executed by the step of its completion,
which may stand anywhere later in the event list (here: next). -/
def Obligations.StepRunsTheDecodedCommand : Prop :=
  ∀ (s : State) (c : Word) (i : Instr) (rest : List Event),
    s.pending = none → s.inputs = .host ⟨true, 0x00, c⟩ :: .complete :: rest → decodeWord c = .ok i →
    (i = .nop → step s = exec .nop { s with inputs := .complete :: rest, rdata := none }) ∧
    (i ≠ .nop → ∃ op, opOf i = some op ∧
      step s = .next { s with pending := some op, done := false, inputs := .complete :: rest, rdata := none } ∧
      step { s with pending := some op, done := false, inputs := .complete :: rest, rdata := none } =
        exec i { s with pending := some op, done := false, inputs := rest, rdata := none })

/-- Model's choice (log 8): the state with a row's command placed is the state that the acceptance of its CMD write leaves
with the completion as next event; the step from it executes the command. -/
def Obligations.PlacedCommandIsTheAcceptedOne : Prop :=
  ∀ (s : State) (op : Op), s.pending = none → s.rdata = none →
    step { s with inputs := .host ⟨true, 0x00, encode (instrOf op)⟩ :: .complete :: s.inputs } =
      .next (s.withFetchWord 32 (encode (instrOf op)).toNat) ∧
    step (s.withFetchWord 32 (encode (instrOf op)).toNat) =
      exec (instrOf op) { s with pending := some op, done := false }

/-! The commands: result, completion, frame -/

/-- R103: NOP changes nothing when it is executed; a CMD write of its word changes nothing while not BUSY, and is an
ordinary dropped write while BUSY. -/
def Obligations.NopChangesNothing : Prop :=
  (∀ s : State, exec .nop s = .next s) ∧
  (∀ (s : State) (rest : List Event), s.inputs = .host ⟨true, 0x00, 0x00000000⟩ :: rest →
    (s.pending = none → step s = .next { s with inputs := rest, rdata := none }) ∧
    (s.pending ≠ none → step s = .next { s with werr := true, inputs := rest, rdata := none }))

/-- R70, R75: `S(v)` is the XOR of the entry of SBOX0 at the low byte of `v` and of SBOX1 at the high byte; SBOX completes
in every state with SBOX_OUT = S(SBOX_IN), `pending` none, DONE 1, and nothing else changed. -/
def Obligations.SboxResultAndFrame : Prop :=
  (∀ v : Half, sboxLookup v = sbox0 (v.extractLsb' 0 8) ^^^ sbox1 (v.extractLsb' 8 8)) ∧
  (∀ s : State, exec .sbox s = .next { s with
    sboxOut := sbox0 (s.sboxIn.extractLsb' 0 8) ^^^ sbox1 (s.sboxIn.extractLsb' 8 8), pending := none, done := true })

/-- R80 to R85, R88: PHASE1 completes in every state; P1K is the last of nine buffers, the first made from IV32 and TA,
each next one by the six updates of a round with the key words of the schedule; nothing else changes but `pending`, DONE
and the unspecified working buffer. -/
def Obligations.Phase1RunsTheEightRounds : Prop :=
  ∀ s : State, ∃ (W : Nat → Vector Half 5) (t : State), exec .phase1 s = .next t ∧
    (W 0)[0] = s.iv32.extractLsb' 0 16 ∧ (W 0)[1] = s.iv32.extractLsb' 16 16 ∧
    (W 0)[2] = s.ta[1] ++ s.ta[0] ∧ (W 0)[3] = s.ta[3] ++ s.ta[2] ∧ (W 0)[4] = s.ta[5] ++ s.ta[4] ∧
    (∀ i, i < 8 →
      let K := fun (e o : Fin 8) => if i % 2 = 0 then tk16 s.tk e else tk16 s.tk o
      (W (i + 1))[0] = (W i)[0] + sboxLookup ((W i)[4] ^^^ K 0 1) ∧
      (W (i + 1))[1] = (W i)[1] + sboxLookup ((W (i + 1))[0] ^^^ K 2 3) ∧
      (W (i + 1))[2] = (W i)[2] + sboxLookup ((W (i + 1))[1] ^^^ K 4 5) ∧
      (W (i + 1))[3] = (W i)[3] + sboxLookup ((W (i + 1))[2] ^^^ K 6 7) ∧
      (W (i + 1))[4] = (W i)[4] + sboxLookup ((W (i + 1))[3] ^^^ K 0 1) + BitVec.ofNat 16 i) ∧
    t = { s with p1k := W 8, pending := none, done := true, w := t.w, freeCount := t.freeCount }

/-- R90 to R95: PHASE2 completes in every state; `U` is the buffer after the non-linear pass, `V` after the linear pass,
RC4KEY their assembly with IV16 and TK16(0); nothing else changes but `pending`, DONE and the unspecified working
buffer. -/
def Obligations.Phase2RunsTheTwoPasses : Prop :=
  ∀ s : State, ∃ (U V : Vector Half 6) (t : State), exec .phase2 s = .next t ∧
    U[0] = s.p1k[0] + sboxLookup ((s.p1k[4] + s.iv16) ^^^ tk16 s.tk 0) ∧
    U[1] = s.p1k[1] + sboxLookup (U[0] ^^^ tk16 s.tk 1) ∧
    U[2] = s.p1k[2] + sboxLookup (U[1] ^^^ tk16 s.tk 2) ∧
    U[3] = s.p1k[3] + sboxLookup (U[2] ^^^ tk16 s.tk 3) ∧
    U[4] = s.p1k[4] + sboxLookup (U[3] ^^^ tk16 s.tk 4) ∧
    U[5] = s.p1k[4] + s.iv16 + sboxLookup (U[4] ^^^ tk16 s.tk 5) ∧
    V[0] = U[0] + (U[5] ^^^ tk16 s.tk 6).rotateRight 1 ∧
    V[1] = U[1] + (V[0] ^^^ tk16 s.tk 7).rotateRight 1 ∧
    V[2] = U[2] + V[1].rotateRight 1 ∧
    V[3] = U[3] + V[2].rotateRight 1 ∧
    V[4] = U[4] + V[3].rotateRight 1 ∧
    V[5] = U[5] + V[4].rotateRight 1 ∧
    t.rc4key[0] = s.iv16.extractLsb' 8 8 ∧
    t.rc4key[1] = (s.iv16.extractLsb' 8 8 ||| 0x20) &&& 0x7F ∧
    t.rc4key[2] = s.iv16.extractLsb' 0 8 ∧
    t.rc4key[3] = (V[5] ^^^ tk16 s.tk 0).extractLsb' 1 8 ∧
    (∀ k : Fin 6, t.rc4key[4 + 2 * k.val] = V[k].extractLsb' 0 8 ∧ t.rc4key[5 + 2 * k.val] = V[k].extractLsb' 8 8) ∧
    t = { s with rc4key := t.rc4key, pending := none, done := true, w := t.w, freeCount := t.freeCount }

/-- R104: CLR completes in every state; every key and data register and W is zero afterwards, DONE is 1, CTRL, ILL and
WERR are as before; a host reads 0 everywhere but in STATUS and CTRL. -/
def Obligations.ClrZeroesKeyAndDataState : Prop :=
  ∀ s : State, ∃ t, exec .clr s = .next t ∧
    (∀ k : Fin 16, t.tk[k] = 0 ∧ t.rc4key[k] = 0) ∧ (∀ k : Fin 6, t.ta[k] = 0 ∧ t.w[k] = 0) ∧
    (∀ k : Fin 5, t.p1k[k] = 0) ∧ t.iv32 = 0 ∧ t.iv16 = 0 ∧ t.sboxIn = 0 ∧ t.sboxOut = 0 ∧
    t.pending = none ∧ t.done = true ∧ SameControl s t ∧ t.inputs = s.inputs ∧ t.rdata = s.rdata ∧
    t.freeCount = s.freeCount ∧ (∀ a, regAt a ≠ .status → regAt a ≠ .ctrl → regRead a t = 0)

/-- R86, R95: the result of PHASE1 is a function of TK, TA and IV32 alone, that of PHASE2 of TK, P1K and IV16 alone, that
of SBOX of SBOX_IN alone; running the same command again on the state it left gives the same result. -/
def Obligations.ResultsDependOnOperandsOnly : Prop :=
  (∀ s t s' t' : State, exec .phase1 s = .next s' → exec .phase1 t = .next t' →
    s.tk = t.tk → s.ta = t.ta → s.iv32 = t.iv32 → s'.p1k = t'.p1k) ∧
  (∀ s t s' t' : State, exec .phase2 s = .next s' → exec .phase2 t = .next t' →
    s.tk = t.tk → s.p1k = t.p1k → s.iv16 = t.iv16 → s'.rc4key = t'.rc4key) ∧
  (∀ s t s' t' : State, exec .sbox s = .next s' → exec .sbox t = .next t' → s.sboxIn = t.sboxIn →
    s'.sboxOut = t'.sboxOut) ∧
  (∀ (i : Instr) (s s' s'' : State), exec i s = .next s' → exec i s' = .next s'' → SameData s' s'')

/-- R96: the properties of every PHASE2 result: the forced bits of byte 1, the cleartext bytes 0 and 2, bytes 0 and 1
agree outside 0xA0, different IV16 give different keys; and the reset and cleared key do not have them. -/
def Obligations.Phase2KeyInvariants : Prop :=
  (∀ s t : State, exec .phase2 s = .next t →
    t.rc4key[1] &&& 0x80 = 0 ∧ t.rc4key[1] &&& 0x20 ≠ 0 ∧
    t.rc4key[0] = hi8 s.iv16 ∧ t.rc4key[2] = lo8 s.iv16 ∧
    (t.rc4key[1] ^^^ t.rc4key[0]) &&& ~~~0xA0 = 0) ∧
  (∀ s t s' t' : State, exec .phase2 s = .next s' → exec .phase2 t = .next t' → s.tk = t.tk → s.p1k = t.p1k →
    s.iv16 ≠ t.iv16 → s'.rc4key ≠ t'.rc4key) ∧
  (∀ b : Byte, (∃ s t : State, exec .phase2 s = .next t ∧ t.rc4key[1] = b) ↔ b &&& 0x80 = 0 ∧ b &&& 0x20 ≠ 0) ∧
  State.reset.rc4key[1] &&& 0x20 = 0 ∧
  (∀ s t : State, exec .clr s = .next t → t.rc4key[1] &&& 0x20 = 0)

/-- R137, R3: PHASE1 makes P1K current; a step keeps it current unless it writes TK, TA, IV32 or P1K, completes CLR, or
resets; and PHASE2 on a current P1K gives `phase2(TK, phase1(TK, TA, IV32), IV16)`. -/
def Obligations.CurrentP1kGivesThePacketKey : Prop :=
  (∀ s t : State, exec .phase1 s = .next t → P1kCurrent t) ∧
  (∀ s t : State, P1kCurrent s → step s = .next t →
    ¬ NextWritesOneOf s [.tk 0, .tk 1, .tk 2, .tk 3, .ta0, .ta1, .iv32, .p1k0, .p1k1, .p1k2] →
    ¬ NextCompletes s .clr → ¬ NextIsReset s → P1kCurrent t) ∧
  (∀ s t : State, P1kCurrent s → exec .phase2 s = .next t →
    t.rc4key = phase2 s.tk (phase1 s.tk s.ta s.iv32) s.iv16)

/-! The two tables and the helpers -/

/-- R73 (a): under the supplied ROM, swapping the bytes of the input of `S` swaps the bytes of its output. -/
def Obligations.SboxByteSwapSymmetry : Prop :=
  ∀ h l : Byte, sboxLookup (make16 l h) =
    make16 (lo8 (sboxLookup (make16 h l))) (hi8 (sboxLookup (make16 h l)))

/-- R73 (b): under the supplied ROM, `S` is a bijection on the 65536 16-bit values. -/
def Obligations.SboxIsABijection : Prop := Function.Bijective sboxLookup

/-- R78, R79: the check values of 44_sbox_rom.md (length, distinctness, sum, XOR, the zero entry, the entries at 0x00 and
0xFF, three values of `S`), and each entry of SBOX1 is that of SBOX0 with its bytes swapped. -/
def Obligations.RomCheckValues : Prop :=
  sbox0Table.length = 256 ∧ sbox1Table.length = 256 ∧ sbox0Table.Nodup ∧ sbox1Table.Nodup ∧
  (sbox0Table.map BitVec.toNat).sum = 8388480 ∧ (sbox1Table.map BitVec.toNat).sum = 8388480 ∧
  sbox0Table.foldl (· ^^^ ·) 0 = 0 ∧ sbox1Table.foldl (· ^^^ ·) 0 = 0 ∧
  (∀ b : Byte, sbox0 b = 0 ↔ b = 0x52) ∧ (∀ b : Byte, sbox1 b = 0 ↔ b = 0x52) ∧
  sbox0 0x00 = 0xC6A5 ∧ sbox0 0xFF = 0x2C3A ∧ sbox1 0x00 = 0xA5C6 ∧ sbox1 0xFF = 0x3A2C ∧
  sboxLookup 0x0000 = 0x6363 ∧ sboxLookup 0xFFFF = 0x1616 ∧ sboxLookup 0x1234 = 0x70A1 ∧
  (∀ b : Byte, sbox1 b = make16 (lo8 (sbox0 b)) (hi8 (sbox0 b)))

/-- R13: RotR1 is the formula of the rule and rotates all 16 bits right by one: bit 0 goes to bit 15, bit i+1 to bit i; the rule's examples. -/
def Obligations.RotR1RotatesAllSixteenBits : Prop :=
  (∀ v : Half, rotR1 v = ((v >>> 1) &&& 0x7FFF) ^^^ ((v &&& 1) <<< 15)) ∧
  (∀ v : Half, (rotR1 v).getLsbD 15 = v.getLsbD 0 ∧ ∀ i, i < 15 → (rotR1 v).getLsbD i = v.getLsbD (i + 1)) ∧
  rotR1 0x0001 = 0x8000 ∧ rotR1 0x8000 = 0x4000 ∧ rotR1 0x0003 = 0x8001 ∧ rotR1 0xFFFF = 0xFFFF ∧ rotR1 0x0000 = 0x0000

/-- R9: make16 puts its first argument in the high byte; the XOR and the OR form agree; hi8 and lo8 are the inverses. -/
def Obligations.Make16AssemblesAndSplits : Prop :=
  (∀ h l : Byte, (make16 h l).toNat = 256 * h.toNat + l.toNat ∧
    make16 h l = (l.setWidth 16 ^^^ h.setWidth 16 <<< 8) ∧ make16 h l = (l.setWidth 16 ||| h.setWidth 16 <<< 8) ∧
    hi8 (make16 h l) = h ∧ lo8 (make16 h l) = l) ∧
  (∀ v : Half, make16 (hi8 v) (lo8 v) = v)

/-- R42, R43 (register terms): each half of a TK register is a key word; the TA and IV32 registers are the Phase-1
initial words; the upper three RC4KEY registers are the six words of the final Phase-2 buffer. -/
def Obligations.RegistersShowTheWords : Prop :=
  (∀ (s : State) (n : Fin 4),
    lo16 (regRead (addrOf (.tk n)) s) = tk16 s.tk ⟨2 * n.val, by omega⟩ ∧
    hi16 (regRead (addrOf (.tk n)) s) = tk16 s.tk ⟨2 * n.val + 1, by omega⟩) ∧
  (∀ s : State,
    lo16 (regRead (addrOf .iv32) s) = (phase1Init s.ta s.iv32)[0] ∧
    hi16 (regRead (addrOf .iv32) s) = (phase1Init s.ta s.iv32)[1] ∧
    lo16 (regRead (addrOf .ta0) s) = (phase1Init s.ta s.iv32)[2] ∧
    hi16 (regRead (addrOf .ta0) s) = (phase1Init s.ta s.iv32)[3] ∧
    lo16 (regRead (addrOf .ta1) s) = (phase1Init s.ta s.iv32)[4]) ∧
  (∀ s t : State, exec .phase2 s = .next t →
    let W := phase2Buffer sboxLookup s.tk s.p1k s.iv16
    regRead (addrOf (.rc4key 1)) t = W[1] ++ W[0] ∧ regRead (addrOf (.rc4key 2)) t = W[3] ++ W[2] ∧
    regRead (addrOf (.rc4key 3)) t = W[5] ++ W[4])

/-! Host transactions -/

/-- R45: a read, at any time, puts the value of the addressed register on the output (log 3) and changes no state of the
block; the value's bits, register by register. -/
def Obligations.ReadsReturnTheMapAndChangeNothing : Prop :=
  (∀ (s : State) (a : WordAddr) (x : Word) (rest : List Event), s.inputs = .host ⟨false, a, x⟩ :: rest →
    step s = .next { s with inputs := rest, rdata := some (regRead a s) }) ∧
  (∀ s : State,
    regRead 0x00 s = 0 ∧
    (regRead 0x01 s).toNat = (if s.pending = none then 0 else 1) + (if s.done then 2 else 0) + (if s.ill then 4 else 0) +
      (if s.werr then 8 else 0) ∧
    (regRead 0x02 s).toNat = (if s.ieDone then 1 else 0) + (if s.ieErr then 2 else 0) ∧
    (∀ (n : Fin 4) (k : Fin 4), (regRead (BitVec.ofNat 6 (4 + n.val)) s).extractLsb' (8 * k.val) 8 =
      s.tk[4 * n.val + k.val]) ∧
    (∀ k : Fin 4, (regRead 0x08 s).extractLsb' (8 * k.val) 8 = s.ta[k.val]) ∧
    regRead 0x09 s = (0 : Half) ++ (s.ta[5] ++ s.ta[4]) ∧
    regRead 0x0A s = s.iv32 ∧ regRead 0x0B s = (0 : Half) ++ s.iv16 ∧
    regRead 0x0C s = s.p1k[1] ++ s.p1k[0] ∧ regRead 0x0D s = s.p1k[3] ++ s.p1k[2] ∧
    regRead 0x0E s = (0 : Half) ++ s.p1k[4] ∧
    (∀ (n : Fin 4) (k : Fin 4), (regRead (BitVec.ofNat 6 (16 + n.val)) s).extractLsb' (8 * k.val) 8 =
      s.rc4key[4 * n.val + k.val]) ∧
    regRead 0x14 s = (0 : Half) ++ s.sboxIn ∧ regRead 0x15 s = (0 : Half) ++ s.sboxOut ∧
    (∀ a : WordAddr, a = 0x03 ∨ a = 0x0F ∨ 0x16 ≤ a.toNat → regRead a s = 0))

/-- R46, R41: a write to an operand register while not BUSY is read back under the register's write mask, every other
register of the window reads as before, and no flag, enable or `pending` changes. -/
def Obligations.OperandWriteReadsBackMasked : Prop :=
  ∀ (s : State) (a : WordAddr) (d : Word) (rest : List Event),
    s.pending = none → s.inputs = .host ⟨true, a, d⟩ :: rest → inWblk a = true → a ≠ 0x00 →
    ∃ t, step s = .next t ∧
      regRead a t = (if a = 0x09 ∨ a = 0x0B ∨ a = 0x0E ∨ a = 0x14 then d &&& 0x0000FFFF else d) ∧
      (∀ b, b ≠ a → regRead b t = regRead b s) ∧
      t.pending = none ∧ t.done = s.done ∧ SameControl s t ∧ t.rc4key = s.rc4key ∧ t.sboxOut = s.sboxOut ∧
      t.w = s.w ∧ t.inputs = rest ∧ t.rdata = none ∧ t.freeCount = s.freeCount

/-- R46, R47, R48: a write to a read-only or reserved offset has no effect and sets no flag, BUSY or not. -/
def Obligations.ReservedAndReadOnlyWritesAreIgnored : Prop :=
  ∀ (s : State) (a : WordAddr) (d : Word) (rest : List Event),
    s.inputs = .host ⟨true, a, d⟩ :: rest → inWblk a = false → a ≠ 0x01 → a ≠ 0x02 →
    step s = .next { s with inputs := rest, rdata := none }

/-- R105: a STATUS write, BUSY or not, clears each of DONE, ILL, WERR whose bit of `d` is 1 and changes nothing else. -/
def Obligations.StatusWriteOneToClear : Prop :=
  ∀ (s : State) (d : Word) (rest : List Event), s.inputs = .host ⟨true, 0x01, d⟩ :: rest →
    step s = .next { s with
      done := if d.getLsbD 1 then false else s.done
      ill := if d.getLsbD 2 then false else s.ill
      werr := if d.getLsbD 3 then false else s.werr
      inputs := rest, rdata := none }

/-- R106, R114: a CTRL write, BUSY or not, sets the two enables from bits 0 and 1, ignores bits 31..2, changes nothing
else, and acts on `irq` immediately; CTRL then reads `d` masked to its two bits. -/
def Obligations.CtrlWriteSetsEnables : Prop :=
  ∀ (s : State) (d : Word) (rest : List Event), s.inputs = .host ⟨true, 0x02, d⟩ :: rest →
    ∃ t, step s = .next t ∧
      t = { s with ieDone := d.getLsbD 0, ieErr := d.getLsbD 1, inputs := rest, rdata := none } ∧
      t.irq = ((d.getLsbD 0 && s.done) || (d.getLsbD 1 && (s.ill || s.werr))) ∧
      regRead 0x02 t = d &&& 0x00000003

/-- R114, R115: the level of `irq`; acceptance and an acknowledgement of every flag lower it. -/
def Obligations.InterruptLevelAndClearing : Prop :=
  (∀ s : State, s.irq = true ↔
    (s.ieDone = true ∧ s.done = true) ∨ (s.ieErr = true ∧ (s.ill = true ∨ s.werr = true))) ∧
  (∀ (s t : State) (d : Word) (rest : List Event), s.inputs = .host ⟨true, 0x01, d⟩ :: rest → d &&& 0xE = 0xE →
    step s = .next t → t.irq = false) ∧
  (∀ (s t : State) (i : Instr) (rest : List Event), s.pending = none →
    s.inputs = .host ⟨true, 0x00, encode i⟩ :: rest → i ≠ .nop → step s = .next t →
    (t.irq = true ↔ s.ieErr = true ∧ (s.ill = true ∨ s.werr = true)))

/-- R67, R46: the loads LDTK, LDTA and LDP1K of the host notation, on an idle block, leave exactly their array in TK, TA and
P1K and change nothing else. -/
def Obligations.LoadsPutTheOperands : Prop :=
  ∀ (s : State) (rest : List Event), s.pending = none →
    (∀ b : Vector Byte 16, s.inputs = lineEvents (.ldtk b) ++ rest →
      Reaches 4 s { s with tk := b, inputs := rest, rdata := none }) ∧
    (∀ b : Vector Byte 6, s.inputs = lineEvents (.ldta b) ++ rest →
      Reaches 2 s { s with ta := b, inputs := rest, rdata := none }) ∧
    (∀ b : Vector Half 5, s.inputs = lineEvents (.ldp1k b) ++ rest →
      Reaches 3 s { s with p1k := b, inputs := rest, rdata := none })

/-! The two error conditions, the exceptions of the block -/

/-- R111: a CMD write of an illegal word while not BUSY sets ILL (kept if set) and changes nothing else: no command
becomes pending, DONE keeps its value. -/
def Obligations.IllegalCommandSetsIllOnly : Prop :=
  ∀ (s : State) (c : Word) (rest : List Event),
    s.pending = none → s.inputs = .host ⟨true, 0x00, c⟩ :: rest → 5 ≤ c.toNat →
    step s = .next { s with ill := true, inputs := rest, rdata := none }

/-- R47, R112, R116: a write to WBLK while BUSY, a CMD write with any word included, sets WERR (kept if set) and changes
nothing else. -/
def Obligations.BusyWriteSetsWerrOnly : Prop :=
  ∀ (s : State) (op : Op) (a : WordAddr) (d : Word) (rest : List Event),
    s.pending = some op → s.inputs = .host ⟨true, a, d⟩ :: rest → inWblk a = true →
    step s = .next { s with werr := true, inputs := rest, rdata := none }

/-- R110, R117: raising an error condition sets the STATUS bit of its cause code; no other register reads differently, and
`irq` is raised if errors are enabled. -/
def Obligations.RaisingSetsTheCauseBitOnly : Prop :=
  ∀ (e : ErrorCondition) (s : State),
    regRead 0x01 (s.raise e) = regRead 0x01 s ||| (1#32 <<< causeCode e) ∧
    (∀ a, a ≠ 0x01 → regRead a (s.raise e) = regRead a s) ∧
    (s.raise e).irq = (s.irq || s.ieErr) ∧ (s.raise e).pending = s.pending ∧ (s.raise e).w = s.w

/-- R47: the set WBLK is CMD and the operand registers the host may write. -/
def Obligations.WblkIsCmdAndTheOperands : Prop :=
  ∀ a : WordAddr, inWblk a = true ↔
    a = 0x00 ∨ (4 ≤ a.toNat ∧ a.toNat ≤ 14) ∨ a = 0x14

/-! Reset -/

/-- R36: every element after reset, and what the host reads there: zero at every offset, `irq` low. -/
def Obligations.ResetValues : Prop :=
  (∀ k : Fin 16, State.reset.tk[k] = 0 ∧ State.reset.rc4key[k] = 0) ∧ (∀ k : Fin 6, State.reset.ta[k] = 0) ∧
  (∀ k : Fin 5, State.reset.p1k[k] = 0) ∧ State.reset.iv32 = 0 ∧ State.reset.iv16 = 0 ∧
  State.reset.sboxIn = 0 ∧ State.reset.sboxOut = 0 ∧ State.reset.done = false ∧ State.reset.ill = false ∧
  State.reset.werr = false ∧ State.reset.ieDone = false ∧ State.reset.ieErr = false ∧ State.reset.pending = none ∧
  State.reset.irq = false ∧ (∀ a : WordAddr, regRead a State.reset = 0)

/-- R130, R132: a reset event, idle or BUSY, leaves the data registers, flags, enables and `pending` at their reset
values: nothing of a pending command is committed. -/
def Obligations.ResetAbandonsEverything : Prop :=
  ∀ (s : State) (rest : List Event), s.inputs = .reset :: rest →
    ∃ t, step s = .next t ∧ SameData t State.reset ∧ t.done = false ∧ SameControl t State.reset ∧ t.pending = none ∧
      t.irq = false ∧ t.inputs = rest ∧ (∀ a, regRead a t = 0)

/-- R132, R101: a pending command ends only by a reset, or by its completion, which leaves DONE set; a step that does
neither keeps it pending. -/
def Obligations.PendingEndsByCompletionOrReset : Prop :=
  ∀ (s t : State) (op : Op), s.pending = some op → step s = .next t →
    t.pending = some op ∨ (t.pending = none ∧ (NextIsReset s ∨ (NextCompletes s op ∧ t.done = true)))

/-! Whole-machine rules -/

/-- R110, R49 (last paragraph of 93_implementation_defined.md): every step answers a next state, in every state, and
takes exactly the first event. -/
def Obligations.EveryStepAnswersNext : Prop :=
  ∀ s : State, ∃ t, step s = .next t ∧ t.inputs = s.inputs.tail

/-- R29, R100, R101, R105: every step keeps the invariant that BUSY and DONE are not both set. -/
def Obligations.BusyNotDoneIsKept : Prop :=
  ∀ s t : State, BusyNotDone s → step s = .next t → BusyNotDone t

/-- R36: the invariant holds after reset. -/
def Obligations.BusyNotDoneAtReset : Prop := BusyNotDone State.reset

/-- R26, R28, R25: RC4KEY changes only at a PHASE2 or CLR completion or a reset, SBOX_OUT only at an SBOX or CLR
completion or a reset, P1K only at a PHASE1 or CLR completion, a reset, or an accepted host write of a P1K register. -/
def Obligations.ResultsChangeOnlyAtCompletion : Prop :=
  ∀ s t : State, step s = .next t →
    (t.rc4key ≠ s.rc4key → NextCompletes s .phase2 ∨ NextCompletes s .clr ∨ NextIsReset s) ∧
    (t.sboxOut ≠ s.sboxOut → NextCompletes s .sbox ∨ NextCompletes s .clr ∨ NextIsReset s) ∧
    (t.p1k ≠ s.p1k → NextCompletes s .phase1 ∨ NextCompletes s .clr ∨ NextIsReset s ∨
      NextWritesOneOf s [.p1k0, .p1k1, .p1k2])

/-- R21 to R24, R27, R35: an operand register changes only by an accepted host write of that register, a CLR completion
or a reset; in particular the block never advances IV16 or IV32 by itself. -/
def Obligations.OperandsChangeOnlyByHostClrReset : Prop :=
  ∀ s t : State, step s = .next t →
    (t.tk ≠ s.tk → NextWritesOneOf s [.tk 0, .tk 1, .tk 2, .tk 3] ∨ NextCompletes s .clr ∨ NextIsReset s) ∧
    (t.ta ≠ s.ta → NextWritesOneOf s [.ta0, .ta1] ∨ NextCompletes s .clr ∨ NextIsReset s) ∧
    (t.iv32 ≠ s.iv32 → NextWritesOneOf s [.iv32] ∨ NextCompletes s .clr ∨ NextIsReset s) ∧
    (t.iv16 ≠ s.iv16 → NextWritesOneOf s [.iv16] ∨ NextCompletes s .clr ∨ NextIsReset s) ∧
    (t.sboxIn ≠ s.sboxIn → NextWritesOneOf s [.sboxIn] ∨ NextCompletes s .clr ∨ NextIsReset s)

/-- R29, R100, R101, R105: the value of each flag after a step, for every step: set by its setting events, kept unless
one of its clearing events occurs. Model's choice (log 2): with no event left the step is the completion of the pending
command, which the BUSY and DONE clauses count among their events through `NextCompletes`. -/
def Obligations.EachFlagFollowsItsEvents : Prop :=
  ∀ s t : State, step s = .next t →
    (t.busy = true ↔ (s.pending = none ∧ ∃ c, NextIsWrite s 0x00 c ∧ 1 ≤ c.toNat ∧ c.toNat ≤ 4) ∨
      (s.busy = true ∧ ¬ NextIsReset s ∧ ¬ ∃ op, NextCompletes s op)) ∧
    (t.done = true ↔ (∃ op, NextCompletes s op) ∨
      (s.done = true ∧ ¬ NextIsReset s ∧ ¬ (∃ d, NextIsWrite s 0x01 d ∧ d.getLsbD 1 = true) ∧
        ¬ (s.pending = none ∧ ∃ c, NextIsWrite s 0x00 c ∧ 1 ≤ c.toNat ∧ c.toNat ≤ 4))) ∧
    (t.ill = true ↔ (s.pending = none ∧ ∃ c, NextIsWrite s 0x00 c ∧ 5 ≤ c.toNat) ∨
      (s.ill = true ∧ ¬ NextIsReset s ∧ ¬ ∃ d, NextIsWrite s 0x01 d ∧ d.getLsbD 2 = true)) ∧
    (t.werr = true ↔ (s.pending ≠ none ∧ ∃ a d, NextIsWrite s a d ∧ inWblk a = true) ∨
      (s.werr = true ∧ ¬ NextIsReset s ∧ ¬ ∃ d, NextIsWrite s 0x01 d ∧ d.getLsbD 3 = true))

/-- R30: the enables change only by a CTRL write or a reset. -/
def Obligations.EnablesChangeOnlyByCtrlWrite : Prop :=
  ∀ s t : State, step s = .next t → t.ieDone ≠ s.ieDone ∨ t.ieErr ≠ s.ieErr →
    NextIsReset s ∨ ∃ d, NextIsWrite s 0x02 d

/-- R45, R47, R112: host transactions on a BUSY block, however many, leave the pending command and every data register as
they are: a read returns the value from before the command. -/
def Obligations.HostCannotDisturbABusyBlock : Prop :=
  ∀ (s : State) (op : Op) (ts : List Txn) (rest : List Event),
    s.pending = some op → s.inputs = ts.map Event.host ++ rest →
    ∃ t, Reaches ts.length s t ∧ t.pending = some op ∧ SameData t s ∧ t.w = s.w ∧ t.inputs = rest ∧
      (∀ a, regAt a ≠ .status → regAt a ≠ .ctrl → regRead a t = regRead a s)

/-- R101, R112: whatever the host does between acceptance and completion, the completed command leaves exactly the data
registers it would have left had it completed at once, with DONE set and nothing pending. -/
def Obligations.ResultIndependentOfBusyTraffic : Prop :=
  ∀ (s : State) (op : Op) (ts : List Txn) (rest : List Event),
    s.pending = some op → s.inputs = ts.map Event.host ++ .complete :: rest →
    ∃ t u, Reaches (ts.length + 1) s t ∧ exec (instrOf op) s = .next u ∧ SameData t u ∧
      t.pending = none ∧ t.done = true ∧ t.inputs = rest

/-- R102: every pending command completes: when the events are used up and the engine moves once more, nothing is
pending. Model's choice (log 2): the engine moves when no event is left. -/
def Obligations.EveryPendingCommandCompletes : Prop :=
  ∀ s : State, ∃ t, Reaches (s.inputs.length + 1) s t ∧ t.pending = none ∧ t.inputs = []

/-! Clock edges -/

/-- R51: on an edge with a host transaction and the due completion, the host is first: a read sees BUSY and the old
values, a WBLK write is dropped with WERR, a W1C of DONE is followed by DONE being set; in each case the completed
command leaves the data registers it would have left without the transaction. -/
def Obligations.SameEdgeHostGoesFirst : Prop :=
  ∀ (lat : Op → Nat) (c : Clocked) (op : Op) (t : Txn), c.state.pending = some op → c.due lat = true →
    ∃ c' u, clockEdge lat { rstN := true, sel := true, txn := t } c = .next c' ∧
      exec (instrOf op) c.state = .next u ∧ SameData c'.state u ∧
      c'.state.pending = none ∧ c'.state.done = true ∧
      (t.wr = false → c'.state.rdata = some (regRead t.addr c.state)) ∧
      (t.wr = true → inWblk t.addr = true → c'.state.werr = true)

/-- R102: with any latencies of at least 1, a command accepted on an edge (its cycle count is then 0) completes exactly
on the LAT-th edge after it, whatever transactions the host makes meanwhile, unless reset. Model's choice: the cycle count
`age` and its values (log 9), and acceptance already on the edge at which reset is left (log 16). -/
def Obligations.CommandCompletesExactlyAtItsLatency : Prop :=
  ∀ (lat : Op → Nat), (∀ op, 1 ≤ lat op) →
    (∀ (c : Clocked) (op : Op), c.state.pending = none →
      ∃ c', clockEdge lat ⟨true, true, ⟨true, 0x00, encode (instrOf op)⟩⟩ c = .next c' ∧
        c'.state.pending = some op ∧ c'.age = 0 ∧ SameData c'.state c.state) ∧
    (∀ (c : Clocked) (op : Op) (ps : List Pins), c.state.pending = some op → c.age = 0 → (∀ p ∈ ps, p.rstN = true) →
      (ps.length < lat op → ∃ c', clockEdges lat ps c = .next c' ∧ c'.state.pending = some op ∧
        c'.age = ps.length ∧ SameData c'.state c.state) ∧
      (ps.length = lat op → ∃ c' u, clockEdges lat ps c = .next c' ∧ exec (instrOf op) c.state = .next u ∧
        SameData c'.state u ∧ c'.state.pending = none ∧ c'.state.done = true))

/-- R130: at an edge with `rst_n` low the transaction on the pins is ignored, the block takes its reset values and the
`irq` pin is 0. -/
def Obligations.ResetPinIgnoresTransactions : Prop :=
  ∀ (lat : Op → Nat) (c : Clocked) (p : Pins), p.rstN = false →
    ∃ c', clockEdge lat p c = .next c' ∧ SameData c'.state State.reset ∧ c'.state.pending = none ∧
      c'.state.done = false ∧ SameControl c'.state State.reset ∧ c'.age = 0 ∧ irqPin p c'.state = false

/-- Model's choice (log 10): an access becomes a transaction exactly when it is one whole aligned word of the window; what
the platform does with any other, R44 leaves to it. R40, R44: the transaction is at the word address of the offset. -/
def Obligations.OnlyAlignedWordsReachTheBlock : Prop :=
  (∀ (base : Nat) (a : HostAccess), txnOfAccess base a = none ↔
    a.addr < base ∨ base + 256 ≤ a.addr ∨ (a.addr - base) % 4 ≠ 0 ∨ a.bytes ≠ 4) ∧
  (∀ (base : Nat) (a : HostAccess) (t : Txn), txnOfAccess base a = some t →
    t.wr = a.wr ∧ t.wdata = a.wdata ∧ base + byteOffset t.addr = a.addr)
end

