-- ==== Sys2Proof/Laws/State.lean ====
section
/-! SUPPORT. One lemma per field per named update of the state, each true by definition, so that no proof unfolds a
record update. -/

namespace Sys2Proof.Machine

@[simp] theorem State.accept_tk (op : Op) (s : State) : (s.accept op).tk = s.tk := rfl
@[simp] theorem State.accept_ta (op : Op) (s : State) : (s.accept op).ta = s.ta := rfl
@[simp] theorem State.accept_iv32 (op : Op) (s : State) : (s.accept op).iv32 = s.iv32 := rfl
@[simp] theorem State.accept_iv16 (op : Op) (s : State) : (s.accept op).iv16 = s.iv16 := rfl
@[simp] theorem State.accept_p1k (op : Op) (s : State) : (s.accept op).p1k = s.p1k := rfl
@[simp] theorem State.accept_rc4key (op : Op) (s : State) : (s.accept op).rc4key = s.rc4key := rfl
@[simp] theorem State.accept_sboxIn (op : Op) (s : State) : (s.accept op).sboxIn = s.sboxIn := rfl
@[simp] theorem State.accept_sboxOut (op : Op) (s : State) : (s.accept op).sboxOut = s.sboxOut := rfl
@[simp] theorem State.accept_done (op : Op) (s : State) : (s.accept op).done = false := rfl
@[simp] theorem State.accept_ill (op : Op) (s : State) : (s.accept op).ill = s.ill := rfl
@[simp] theorem State.accept_werr (op : Op) (s : State) : (s.accept op).werr = s.werr := rfl
@[simp] theorem State.accept_ieDone (op : Op) (s : State) : (s.accept op).ieDone = s.ieDone := rfl
@[simp] theorem State.accept_ieErr (op : Op) (s : State) : (s.accept op).ieErr = s.ieErr := rfl
@[simp] theorem State.accept_pending (op : Op) (s : State) : (s.accept op).pending = some op := rfl
@[simp] theorem State.accept_w (op : Op) (s : State) : (s.accept op).w = s.w := rfl
@[simp] theorem State.accept_inputs (op : Op) (s : State) : (s.accept op).inputs = s.inputs := rfl
@[simp] theorem State.accept_rdata (op : Op) (s : State) : (s.accept op).rdata = s.rdata := rfl
@[simp] theorem State.accept_freeCount (op : Op) (s : State) : (s.accept op).freeCount = s.freeCount := rfl

@[simp] theorem State.finish_tk (s : State) : (s.finish).tk = s.tk := rfl
@[simp] theorem State.finish_ta (s : State) : (s.finish).ta = s.ta := rfl
@[simp] theorem State.finish_iv32 (s : State) : (s.finish).iv32 = s.iv32 := rfl
@[simp] theorem State.finish_iv16 (s : State) : (s.finish).iv16 = s.iv16 := rfl
@[simp] theorem State.finish_p1k (s : State) : (s.finish).p1k = s.p1k := rfl
@[simp] theorem State.finish_rc4key (s : State) : (s.finish).rc4key = s.rc4key := rfl
@[simp] theorem State.finish_sboxIn (s : State) : (s.finish).sboxIn = s.sboxIn := rfl
@[simp] theorem State.finish_sboxOut (s : State) : (s.finish).sboxOut = s.sboxOut := rfl
@[simp] theorem State.finish_done (s : State) : (s.finish).done = true := rfl
@[simp] theorem State.finish_ill (s : State) : (s.finish).ill = s.ill := rfl
@[simp] theorem State.finish_werr (s : State) : (s.finish).werr = s.werr := rfl
@[simp] theorem State.finish_ieDone (s : State) : (s.finish).ieDone = s.ieDone := rfl
@[simp] theorem State.finish_ieErr (s : State) : (s.finish).ieErr = s.ieErr := rfl
@[simp] theorem State.finish_pending (s : State) : (s.finish).pending = none := rfl
@[simp] theorem State.finish_w (s : State) : (s.finish).w = s.w := rfl
@[simp] theorem State.finish_inputs (s : State) : (s.finish).inputs = s.inputs := rfl
@[simp] theorem State.finish_rdata (s : State) : (s.finish).rdata = s.rdata := rfl
@[simp] theorem State.finish_freeCount (s : State) : (s.finish).freeCount = s.freeCount := rfl

@[simp] theorem State.raise_ill_tk (s : State) : (s.raise .illegalCommand).tk = s.tk := rfl
@[simp] theorem State.raise_ill_ta (s : State) : (s.raise .illegalCommand).ta = s.ta := rfl
@[simp] theorem State.raise_ill_iv32 (s : State) : (s.raise .illegalCommand).iv32 = s.iv32 := rfl
@[simp] theorem State.raise_ill_iv16 (s : State) : (s.raise .illegalCommand).iv16 = s.iv16 := rfl
@[simp] theorem State.raise_ill_p1k (s : State) : (s.raise .illegalCommand).p1k = s.p1k := rfl
@[simp] theorem State.raise_ill_rc4key (s : State) : (s.raise .illegalCommand).rc4key = s.rc4key := rfl
@[simp] theorem State.raise_ill_sboxIn (s : State) : (s.raise .illegalCommand).sboxIn = s.sboxIn := rfl
@[simp] theorem State.raise_ill_sboxOut (s : State) : (s.raise .illegalCommand).sboxOut = s.sboxOut := rfl
@[simp] theorem State.raise_ill_done (s : State) : (s.raise .illegalCommand).done = s.done := rfl
@[simp] theorem State.raise_ill_ill (s : State) : (s.raise .illegalCommand).ill = true := rfl
@[simp] theorem State.raise_ill_werr (s : State) : (s.raise .illegalCommand).werr = s.werr := rfl
@[simp] theorem State.raise_ill_ieDone (s : State) : (s.raise .illegalCommand).ieDone = s.ieDone := rfl
@[simp] theorem State.raise_ill_ieErr (s : State) : (s.raise .illegalCommand).ieErr = s.ieErr := rfl
@[simp] theorem State.raise_ill_pending (s : State) : (s.raise .illegalCommand).pending = s.pending := rfl
@[simp] theorem State.raise_ill_w (s : State) : (s.raise .illegalCommand).w = s.w := rfl
@[simp] theorem State.raise_ill_inputs (s : State) : (s.raise .illegalCommand).inputs = s.inputs := rfl
@[simp] theorem State.raise_ill_rdata (s : State) : (s.raise .illegalCommand).rdata = s.rdata := rfl
@[simp] theorem State.raise_ill_freeCount (s : State) : (s.raise .illegalCommand).freeCount = s.freeCount := rfl

@[simp] theorem State.raise_werr_tk (s : State) : (s.raise .writeWhileBusy).tk = s.tk := rfl
@[simp] theorem State.raise_werr_ta (s : State) : (s.raise .writeWhileBusy).ta = s.ta := rfl
@[simp] theorem State.raise_werr_iv32 (s : State) : (s.raise .writeWhileBusy).iv32 = s.iv32 := rfl
@[simp] theorem State.raise_werr_iv16 (s : State) : (s.raise .writeWhileBusy).iv16 = s.iv16 := rfl
@[simp] theorem State.raise_werr_p1k (s : State) : (s.raise .writeWhileBusy).p1k = s.p1k := rfl
@[simp] theorem State.raise_werr_rc4key (s : State) : (s.raise .writeWhileBusy).rc4key = s.rc4key := rfl
@[simp] theorem State.raise_werr_sboxIn (s : State) : (s.raise .writeWhileBusy).sboxIn = s.sboxIn := rfl
@[simp] theorem State.raise_werr_sboxOut (s : State) : (s.raise .writeWhileBusy).sboxOut = s.sboxOut := rfl
@[simp] theorem State.raise_werr_done (s : State) : (s.raise .writeWhileBusy).done = s.done := rfl
@[simp] theorem State.raise_werr_ill (s : State) : (s.raise .writeWhileBusy).ill = s.ill := rfl
@[simp] theorem State.raise_werr_werr (s : State) : (s.raise .writeWhileBusy).werr = true := rfl
@[simp] theorem State.raise_werr_ieDone (s : State) : (s.raise .writeWhileBusy).ieDone = s.ieDone := rfl
@[simp] theorem State.raise_werr_ieErr (s : State) : (s.raise .writeWhileBusy).ieErr = s.ieErr := rfl
@[simp] theorem State.raise_werr_pending (s : State) : (s.raise .writeWhileBusy).pending = s.pending := rfl
@[simp] theorem State.raise_werr_w (s : State) : (s.raise .writeWhileBusy).w = s.w := rfl
@[simp] theorem State.raise_werr_inputs (s : State) : (s.raise .writeWhileBusy).inputs = s.inputs := rfl
@[simp] theorem State.raise_werr_rdata (s : State) : (s.raise .writeWhileBusy).rdata = s.rdata := rfl
@[simp] theorem State.raise_werr_freeCount (s : State) : (s.raise .writeWhileBusy).freeCount = s.freeCount := rfl

@[simp] theorem State.ackStatus_tk (d : Word) (s : State) : (s.ackStatus d).tk = s.tk := rfl
@[simp] theorem State.ackStatus_ta (d : Word) (s : State) : (s.ackStatus d).ta = s.ta := rfl
@[simp] theorem State.ackStatus_iv32 (d : Word) (s : State) : (s.ackStatus d).iv32 = s.iv32 := rfl
@[simp] theorem State.ackStatus_iv16 (d : Word) (s : State) : (s.ackStatus d).iv16 = s.iv16 := rfl
@[simp] theorem State.ackStatus_p1k (d : Word) (s : State) : (s.ackStatus d).p1k = s.p1k := rfl
@[simp] theorem State.ackStatus_rc4key (d : Word) (s : State) : (s.ackStatus d).rc4key = s.rc4key := rfl
@[simp] theorem State.ackStatus_sboxIn (d : Word) (s : State) : (s.ackStatus d).sboxIn = s.sboxIn := rfl
@[simp] theorem State.ackStatus_sboxOut (d : Word) (s : State) : (s.ackStatus d).sboxOut = s.sboxOut := rfl
@[simp] theorem State.ackStatus_done (d : Word) (s : State) : (s.ackStatus d).done = (s.done && !d.getLsbD 1) := rfl
@[simp] theorem State.ackStatus_ill (d : Word) (s : State) : (s.ackStatus d).ill = (s.ill && !d.getLsbD 2) := rfl
@[simp] theorem State.ackStatus_werr (d : Word) (s : State) : (s.ackStatus d).werr = (s.werr && !d.getLsbD 3) := rfl
@[simp] theorem State.ackStatus_ieDone (d : Word) (s : State) : (s.ackStatus d).ieDone = s.ieDone := rfl
@[simp] theorem State.ackStatus_ieErr (d : Word) (s : State) : (s.ackStatus d).ieErr = s.ieErr := rfl
@[simp] theorem State.ackStatus_pending (d : Word) (s : State) : (s.ackStatus d).pending = s.pending := rfl
@[simp] theorem State.ackStatus_w (d : Word) (s : State) : (s.ackStatus d).w = s.w := rfl
@[simp] theorem State.ackStatus_inputs (d : Word) (s : State) : (s.ackStatus d).inputs = s.inputs := rfl
@[simp] theorem State.ackStatus_rdata (d : Word) (s : State) : (s.ackStatus d).rdata = s.rdata := rfl
@[simp] theorem State.ackStatus_freeCount (d : Word) (s : State) : (s.ackStatus d).freeCount = s.freeCount := rfl

@[simp] theorem State.setCtrl_tk (d : Word) (s : State) : (s.setCtrl d).tk = s.tk := rfl
@[simp] theorem State.setCtrl_ta (d : Word) (s : State) : (s.setCtrl d).ta = s.ta := rfl
@[simp] theorem State.setCtrl_iv32 (d : Word) (s : State) : (s.setCtrl d).iv32 = s.iv32 := rfl
@[simp] theorem State.setCtrl_iv16 (d : Word) (s : State) : (s.setCtrl d).iv16 = s.iv16 := rfl
@[simp] theorem State.setCtrl_p1k (d : Word) (s : State) : (s.setCtrl d).p1k = s.p1k := rfl
@[simp] theorem State.setCtrl_rc4key (d : Word) (s : State) : (s.setCtrl d).rc4key = s.rc4key := rfl
@[simp] theorem State.setCtrl_sboxIn (d : Word) (s : State) : (s.setCtrl d).sboxIn = s.sboxIn := rfl
@[simp] theorem State.setCtrl_sboxOut (d : Word) (s : State) : (s.setCtrl d).sboxOut = s.sboxOut := rfl
@[simp] theorem State.setCtrl_done (d : Word) (s : State) : (s.setCtrl d).done = s.done := rfl
@[simp] theorem State.setCtrl_ill (d : Word) (s : State) : (s.setCtrl d).ill = s.ill := rfl
@[simp] theorem State.setCtrl_werr (d : Word) (s : State) : (s.setCtrl d).werr = s.werr := rfl
@[simp] theorem State.setCtrl_ieDone (d : Word) (s : State) : (s.setCtrl d).ieDone = d.getLsbD 0 := rfl
@[simp] theorem State.setCtrl_ieErr (d : Word) (s : State) : (s.setCtrl d).ieErr = d.getLsbD 1 := rfl
@[simp] theorem State.setCtrl_pending (d : Word) (s : State) : (s.setCtrl d).pending = s.pending := rfl
@[simp] theorem State.setCtrl_w (d : Word) (s : State) : (s.setCtrl d).w = s.w := rfl
@[simp] theorem State.setCtrl_inputs (d : Word) (s : State) : (s.setCtrl d).inputs = s.inputs := rfl
@[simp] theorem State.setCtrl_rdata (d : Word) (s : State) : (s.setCtrl d).rdata = s.rdata := rfl
@[simp] theorem State.setCtrl_freeCount (d : Word) (s : State) : (s.setCtrl d).freeCount = s.freeCount := rfl

@[simp] theorem State.clearData_tk (s : State) : (s.clearData).tk = State.reset.tk := rfl
@[simp] theorem State.clearData_ta (s : State) : (s.clearData).ta = State.reset.ta := rfl
@[simp] theorem State.clearData_iv32 (s : State) : (s.clearData).iv32 = 0 := rfl
@[simp] theorem State.clearData_iv16 (s : State) : (s.clearData).iv16 = 0 := rfl
@[simp] theorem State.clearData_p1k (s : State) : (s.clearData).p1k = State.reset.p1k := rfl
@[simp] theorem State.clearData_rc4key (s : State) : (s.clearData).rc4key = State.reset.rc4key := rfl
@[simp] theorem State.clearData_sboxIn (s : State) : (s.clearData).sboxIn = 0 := rfl
@[simp] theorem State.clearData_sboxOut (s : State) : (s.clearData).sboxOut = 0 := rfl
@[simp] theorem State.clearData_done (s : State) : (s.clearData).done = s.done := rfl
@[simp] theorem State.clearData_ill (s : State) : (s.clearData).ill = s.ill := rfl
@[simp] theorem State.clearData_werr (s : State) : (s.clearData).werr = s.werr := rfl
@[simp] theorem State.clearData_ieDone (s : State) : (s.clearData).ieDone = s.ieDone := rfl
@[simp] theorem State.clearData_ieErr (s : State) : (s.clearData).ieErr = s.ieErr := rfl
@[simp] theorem State.clearData_pending (s : State) : (s.clearData).pending = s.pending := rfl
@[simp] theorem State.clearData_w (s : State) : (s.clearData).w = #v[0, 0, 0, 0, 0, 0] := rfl
@[simp] theorem State.clearData_inputs (s : State) : (s.clearData).inputs = s.inputs := rfl
@[simp] theorem State.clearData_rdata (s : State) : (s.clearData).rdata = s.rdata := rfl
@[simp] theorem State.clearData_freeCount (s : State) : (s.clearData).freeCount = s.freeCount := rfl

@[simp] theorem State.leaveBuffer_tk (s : State) : (s.leaveBuffer).tk = s.tk := rfl
@[simp] theorem State.leaveBuffer_ta (s : State) : (s.leaveBuffer).ta = s.ta := rfl
@[simp] theorem State.leaveBuffer_iv32 (s : State) : (s.leaveBuffer).iv32 = s.iv32 := rfl
@[simp] theorem State.leaveBuffer_iv16 (s : State) : (s.leaveBuffer).iv16 = s.iv16 := rfl
@[simp] theorem State.leaveBuffer_p1k (s : State) : (s.leaveBuffer).p1k = s.p1k := rfl
@[simp] theorem State.leaveBuffer_rc4key (s : State) : (s.leaveBuffer).rc4key = s.rc4key := rfl
@[simp] theorem State.leaveBuffer_sboxIn (s : State) : (s.leaveBuffer).sboxIn = s.sboxIn := rfl
@[simp] theorem State.leaveBuffer_sboxOut (s : State) : (s.leaveBuffer).sboxOut = s.sboxOut := rfl
@[simp] theorem State.leaveBuffer_done (s : State) : (s.leaveBuffer).done = s.done := rfl
@[simp] theorem State.leaveBuffer_ill (s : State) : (s.leaveBuffer).ill = s.ill := rfl
@[simp] theorem State.leaveBuffer_werr (s : State) : (s.leaveBuffer).werr = s.werr := rfl
@[simp] theorem State.leaveBuffer_ieDone (s : State) : (s.leaveBuffer).ieDone = s.ieDone := rfl
@[simp] theorem State.leaveBuffer_ieErr (s : State) : (s.leaveBuffer).ieErr = s.ieErr := rfl
@[simp] theorem State.leaveBuffer_pending (s : State) : (s.leaveBuffer).pending = s.pending := rfl
@[simp] theorem State.leaveBuffer_w (s : State) : (s.leaveBuffer).w = Config.idleBuffer s.freeCount := rfl
@[simp] theorem State.leaveBuffer_inputs (s : State) : (s.leaveBuffer).inputs = s.inputs := rfl
@[simp] theorem State.leaveBuffer_rdata (s : State) : (s.leaveBuffer).rdata = s.rdata := rfl
@[simp] theorem State.leaveBuffer_freeCount (s : State) : (s.leaveBuffer).freeCount = s.freeCount + 1 := rfl

@[simp] theorem State.applyReset_tk (s : State) : (s.applyReset).tk = State.reset.tk := rfl
@[simp] theorem State.applyReset_ta (s : State) : (s.applyReset).ta = State.reset.ta := rfl
@[simp] theorem State.applyReset_iv32 (s : State) : (s.applyReset).iv32 = State.reset.iv32 := rfl
@[simp] theorem State.applyReset_iv16 (s : State) : (s.applyReset).iv16 = State.reset.iv16 := rfl
@[simp] theorem State.applyReset_p1k (s : State) : (s.applyReset).p1k = State.reset.p1k := rfl
@[simp] theorem State.applyReset_rc4key (s : State) : (s.applyReset).rc4key = State.reset.rc4key := rfl
@[simp] theorem State.applyReset_sboxIn (s : State) : (s.applyReset).sboxIn = State.reset.sboxIn := rfl
@[simp] theorem State.applyReset_sboxOut (s : State) : (s.applyReset).sboxOut = State.reset.sboxOut := rfl
@[simp] theorem State.applyReset_done (s : State) : (s.applyReset).done = State.reset.done := rfl
@[simp] theorem State.applyReset_ill (s : State) : (s.applyReset).ill = State.reset.ill := rfl
@[simp] theorem State.applyReset_werr (s : State) : (s.applyReset).werr = State.reset.werr := rfl
@[simp] theorem State.applyReset_ieDone (s : State) : (s.applyReset).ieDone = State.reset.ieDone := rfl
@[simp] theorem State.applyReset_ieErr (s : State) : (s.applyReset).ieErr = State.reset.ieErr := rfl
@[simp] theorem State.applyReset_pending (s : State) : (s.applyReset).pending = State.reset.pending := rfl
@[simp] theorem State.applyReset_w (s : State) : (s.applyReset).w = State.reset.w := rfl
@[simp] theorem State.applyReset_inputs (s : State) : (s.applyReset).inputs = s.inputs := rfl
@[simp] theorem State.applyReset_rdata (s : State) : (s.applyReset).rdata = State.reset.rdata := rfl
@[simp] theorem State.applyReset_freeCount (s : State) : (s.applyReset).freeCount = s.freeCount := rfl

@[simp] theorem State.next_tk (rest : List Event) (s : State) : (s.next rest).tk = s.tk := rfl
@[simp] theorem State.next_ta (rest : List Event) (s : State) : (s.next rest).ta = s.ta := rfl
@[simp] theorem State.next_iv32 (rest : List Event) (s : State) : (s.next rest).iv32 = s.iv32 := rfl
@[simp] theorem State.next_iv16 (rest : List Event) (s : State) : (s.next rest).iv16 = s.iv16 := rfl
@[simp] theorem State.next_p1k (rest : List Event) (s : State) : (s.next rest).p1k = s.p1k := rfl
@[simp] theorem State.next_rc4key (rest : List Event) (s : State) : (s.next rest).rc4key = s.rc4key := rfl
@[simp] theorem State.next_sboxIn (rest : List Event) (s : State) : (s.next rest).sboxIn = s.sboxIn := rfl
@[simp] theorem State.next_sboxOut (rest : List Event) (s : State) : (s.next rest).sboxOut = s.sboxOut := rfl
@[simp] theorem State.next_done (rest : List Event) (s : State) : (s.next rest).done = s.done := rfl
@[simp] theorem State.next_ill (rest : List Event) (s : State) : (s.next rest).ill = s.ill := rfl
@[simp] theorem State.next_werr (rest : List Event) (s : State) : (s.next rest).werr = s.werr := rfl
@[simp] theorem State.next_ieDone (rest : List Event) (s : State) : (s.next rest).ieDone = s.ieDone := rfl
@[simp] theorem State.next_ieErr (rest : List Event) (s : State) : (s.next rest).ieErr = s.ieErr := rfl
@[simp] theorem State.next_pending (rest : List Event) (s : State) : (s.next rest).pending = s.pending := rfl
@[simp] theorem State.next_w (rest : List Event) (s : State) : (s.next rest).w = s.w := rfl
@[simp] theorem State.next_inputs (rest : List Event) (s : State) : (s.next rest).inputs = rest := rfl
@[simp] theorem State.next_rdata (rest : List Event) (s : State) : (s.next rest).rdata = none := rfl
@[simp] theorem State.next_freeCount (rest : List Event) (s : State) : (s.next rest).freeCount = s.freeCount := rfl

@[simp] theorem State.putRdata_tk (v : Word) (s : State) : (s.putRdata v).tk = s.tk := rfl
@[simp] theorem State.putRdata_ta (v : Word) (s : State) : (s.putRdata v).ta = s.ta := rfl
@[simp] theorem State.putRdata_iv32 (v : Word) (s : State) : (s.putRdata v).iv32 = s.iv32 := rfl
@[simp] theorem State.putRdata_iv16 (v : Word) (s : State) : (s.putRdata v).iv16 = s.iv16 := rfl
@[simp] theorem State.putRdata_p1k (v : Word) (s : State) : (s.putRdata v).p1k = s.p1k := rfl
@[simp] theorem State.putRdata_rc4key (v : Word) (s : State) : (s.putRdata v).rc4key = s.rc4key := rfl
@[simp] theorem State.putRdata_sboxIn (v : Word) (s : State) : (s.putRdata v).sboxIn = s.sboxIn := rfl
@[simp] theorem State.putRdata_sboxOut (v : Word) (s : State) : (s.putRdata v).sboxOut = s.sboxOut := rfl
@[simp] theorem State.putRdata_done (v : Word) (s : State) : (s.putRdata v).done = s.done := rfl
@[simp] theorem State.putRdata_ill (v : Word) (s : State) : (s.putRdata v).ill = s.ill := rfl
@[simp] theorem State.putRdata_werr (v : Word) (s : State) : (s.putRdata v).werr = s.werr := rfl
@[simp] theorem State.putRdata_ieDone (v : Word) (s : State) : (s.putRdata v).ieDone = s.ieDone := rfl
@[simp] theorem State.putRdata_ieErr (v : Word) (s : State) : (s.putRdata v).ieErr = s.ieErr := rfl
@[simp] theorem State.putRdata_pending (v : Word) (s : State) : (s.putRdata v).pending = s.pending := rfl
@[simp] theorem State.putRdata_w (v : Word) (s : State) : (s.putRdata v).w = s.w := rfl
@[simp] theorem State.putRdata_inputs (v : Word) (s : State) : (s.putRdata v).inputs = s.inputs := rfl
@[simp] theorem State.putRdata_rdata (v : Word) (s : State) : (s.putRdata v).rdata = some v := rfl
@[simp] theorem State.putRdata_freeCount (v : Word) (s : State) : (s.putRdata v).freeCount = s.freeCount := rfl

/-! An operand write leaves the flags, the enables and the engine alone. -/

@[simp] theorem writeOperand_rc4key (r : Reg) (d : Word) (s : State) : (writeOperand r d s).rc4key = s.rc4key := by
  cases r <;> rfl

@[simp] theorem writeOperand_sboxOut (r : Reg) (d : Word) (s : State) : (writeOperand r d s).sboxOut = s.sboxOut := by
  cases r <;> rfl

@[simp] theorem writeOperand_done (r : Reg) (d : Word) (s : State) : (writeOperand r d s).done = s.done := by
  cases r <;> rfl

@[simp] theorem writeOperand_ill (r : Reg) (d : Word) (s : State) : (writeOperand r d s).ill = s.ill := by
  cases r <;> rfl

@[simp] theorem writeOperand_werr (r : Reg) (d : Word) (s : State) : (writeOperand r d s).werr = s.werr := by
  cases r <;> rfl

@[simp] theorem writeOperand_ieDone (r : Reg) (d : Word) (s : State) : (writeOperand r d s).ieDone = s.ieDone := by
  cases r <;> rfl

@[simp] theorem writeOperand_ieErr (r : Reg) (d : Word) (s : State) : (writeOperand r d s).ieErr = s.ieErr := by
  cases r <;> rfl

@[simp] theorem writeOperand_pending (r : Reg) (d : Word) (s : State) : (writeOperand r d s).pending = s.pending := by
  cases r <;> rfl

@[simp] theorem writeOperand_w (r : Reg) (d : Word) (s : State) : (writeOperand r d s).w = s.w := by
  cases r <;> rfl

@[simp] theorem writeOperand_inputs (r : Reg) (d : Word) (s : State) : (writeOperand r d s).inputs = s.inputs := by
  cases r <;> rfl

@[simp] theorem writeOperand_rdata (r : Reg) (d : Word) (s : State) : (writeOperand r d s).rdata = s.rdata := by
  cases r <;> rfl

@[simp] theorem writeOperand_freeCount (r : Reg) (d : Word) (s : State) : (writeOperand r d s).freeCount = s.freeCount := by
  cases r <;> rfl

/-! BUSY after each update. -/

@[simp] theorem State.accept_busy (op : Op) (s : State) : (s.accept op).busy = true := rfl

@[simp] theorem State.finish_busy (s : State) : (s.finish).busy = false := rfl

@[simp] theorem State.raise_busy (e : ErrorCondition) (s : State) : (s.raise e).busy = s.busy := by
  cases e <;> rfl

@[simp] theorem State.ackStatus_busy (d : Word) (s : State) : (s.ackStatus d).busy = s.busy := rfl

@[simp] theorem State.setCtrl_busy (d : Word) (s : State) : (s.setCtrl d).busy = s.busy := rfl

@[simp] theorem State.next_busy (rest : List Event) (s : State) : (s.next rest).busy = s.busy := rfl

@[simp] theorem State.putRdata_busy (v : Word) (s : State) : (s.putRdata v).busy = s.busy := rfl

theorem State.busy_iff (s : State) : s.busy = true ↔ ∃ op, s.pending = some op := Option.isSome_iff_exists

theorem State.not_busy_iff (s : State) : s.busy = false ↔ s.pending = none := Option.isSome_eq_false_iff.trans Option.isNone_iff_eq_none

end Sys2Proof.Machine
end

