-- ==== Sys2Proof/Laws/Ops.lean ====
section
/-! SUPPORT. For each shared operation one lemma that says once everything it can do. -/

namespace Sys2Proof.Machine

theorem decodeWord_encode (i : Instr) : decodeWord (encode i) = .ok i := by cases i <;> rfl

@[simp] theorem opOf_instrOf (op : Op) : opOf (instrOf op) = some op := by cases op <;> rfl

theorem opOf_eq_none (i : Instr) : opOf i = none ↔ i = .nop := by cases i <;> simp [opOf]

theorem opOf_eq_some (i : Instr) (op : Op) : opOf i = some op ↔ i = instrOf op := by
  cases i <;> cases op <;> simp [opOf, instrOf]

theorem regAt_addrOf (r : Reg) : regAt (addrOf r) = r := by
  cases r with
  | tk n => revert n; decide
  | rc4key n => revert n; decide
  | _ => rfl

theorem inWblk_iff (a : WordAddr) :
    inWblk a = true ↔ (regAt a = .cmd ∨ (∃ n, regAt a = .tk n) ∨ regAt a = .ta0 ∨ regAt a = .ta1 ∨ regAt a = .iv32 ∨
      regAt a = .iv16 ∨ regAt a = .p1k0 ∨ regAt a = .p1k1 ∨ regAt a = .p1k2 ∨ regAt a = .sboxIn) := by
  revert a; decide

/-! The same operations as equations, for a state and an address whose case is known. -/

theorem hostTransaction_read (a : WordAddr) (x : Word) (s : State) :
    hostTransaction ⟨false, a, x⟩ s = .next (s.putRdata (regRead a s)) := rfl

theorem hostTransaction_idle (a : WordAddr) (d : Word) {s : State} (h : s.pending = none) :
    hostTransaction ⟨true, a, d⟩ s = writeIdle a d s := by
  simp [hostTransaction, regWrite, (State.not_busy_iff s).2 h]

theorem hostTransaction_busy (a : WordAddr) (d : Word) {s : State} (h : s.pending ≠ none) :
    hostTransaction ⟨true, a, d⟩ s = writeBusy a d s := by
  have hb : s.busy = true := (State.busy_iff s).2 (Option.ne_none_iff_exists'.1 h)
  simp [hostTransaction, regWrite, hb]

theorem writeIdle_cmd {a : WordAddr} (h : regAt a = .cmd) (d : Word) (s : State) :
    writeIdle a d s = writeCmd d s := by
  simp [writeIdle, h]

theorem writeIdle_operand {a : WordAddr} (hc : regAt a ≠ .cmd) (hs : regAt a ≠ .status) (ht : regAt a ≠ .ctrl) (d : Word)
    (s : State) : writeIdle a d s = .next (writeOperand (regAt a) d s) := by
  unfold writeIdle
  cases hr : regAt a <;> simp_all

theorem writeBusy_wblk {a : WordAddr} (h : inWblk a = true) (d : Word) (s : State) :
    writeBusy a d s = .next (s.raise .writeWhileBusy) := by
  simp [writeBusy, h]

theorem regWrite_status {a : WordAddr} (h : regAt a = .status) (d : Word) (s : State) :
    regWrite a d s = .next (s.ackStatus d) := by
  have hw : inWblk a = false := by revert a; decide
  unfold regWrite writeBusy writeIdle
  split <;> simp [h, hw]

theorem regWrite_ctrl {a : WordAddr} (h : regAt a = .ctrl) (d : Word) (s : State) :
    regWrite a d s = .next (s.setCtrl d) := by
  have hw : inWblk a = false := by revert a; decide
  unfold regWrite writeBusy writeIdle
  split <;> simp [h, hw]

theorem writeCmd_ok {c : Word} {i : Instr} (h : decodeWord c = .ok i) (s : State) : writeCmd c s = issue i s := by
  simp [writeCmd, h]

theorem writeCmd_error {c : Word} {e : DecodeError} (h : decodeWord c = .error e) (s : State) :
    writeCmd c s = .next (s.raise .illegalCommand) := by
  simp [writeCmd, h]

theorem issue_op (op : Op) (s : State) : issue (instrOf op) s = .next (s.accept op) := by
  cases op <;> rfl

theorem issue_nop (s : State) : issue .nop s = .next s := rfl

theorem completePending_some {s : State} {op : Op} (h : s.pending = some op) :
    completePending s = exec (instrOf op) s := by
  simp [completePending, h]

theorem completePending_none {s : State} (h : s.pending = none) : completePending s = .next s := by
  simp [completePending, h]

/-- What a command's execution can do. -/
theorem exec_cases {i : Instr} {s s' : State} (h : exec i s = .next s') :
    (i = .nop ∧ s' = s) ∨
    (i = .sbox ∧ s' = { s with sboxOut := sboxLookup s.sboxIn }.finish) ∨
    (i = .phase1 ∧ s' = { s with p1k := phase1 s.tk s.ta s.iv32 }.leaveBuffer.finish) ∨
    (i = .phase2 ∧ s' = { s with rc4key := phase2 s.tk s.p1k s.iv16 }.leaveBuffer.finish) ∨
    (i = .clr ∧ s' = s.clearData.finish) := by
  cases i <;> cases h <;> simp

/-- A command's execution always answers a next state. -/
theorem exec_next (i : Instr) (s : State) : ∃ s', exec i s = .next s' := by
  cases i <;> exact ⟨_, rfl⟩

/-- What a CMD write while not BUSY can do (43_system.md R100). -/
theorem writeCmd_cases {c : Word} {s s' : State} (h : writeCmd c s = .next s') :
    (decodeWord c = .ok .nop ∧ s' = s) ∨
    (∃ op, decodeWord c = .ok (instrOf op) ∧ s' = s.accept op) ∨
    (∃ e, decodeWord c = .error e ∧ s' = s.raise .illegalCommand) := by
  unfold writeCmd at h
  cases hd : decodeWord c with
  | error e => rw [hd] at h; cases h; exact .inr (.inr ⟨e, rfl, rfl⟩)
  | ok i =>
    rw [hd] at h
    cases i with
    | nop => cases h; exact .inl ⟨rfl, rfl⟩
    | sbox => cases h; exact .inr (.inl ⟨.sbox, rfl, rfl⟩)
    | phase1 => cases h; exact .inr (.inl ⟨.phase1, rfl, rfl⟩)
    | phase2 => cases h; exact .inr (.inl ⟨.phase2, rfl, rfl⟩)
    | clr => cases h; exact .inr (.inl ⟨.clr, rfl, rfl⟩)

/-- What a host write can do (20_memory.md R46, R47). -/
theorem regWrite_cases {a : WordAddr} {d : Word} {s s' : State} (h : regWrite a d s = .next s') :
    (s.busy = true ∧ inWblk a = true ∧ s' = s.raise .writeWhileBusy) ∨
    (regAt a = .status ∧ s' = s.ackStatus d) ∨
    (regAt a = .ctrl ∧ s' = s.setCtrl d) ∨
    (s.busy = true ∧ inWblk a = false ∧ s' = s) ∨
    (s.busy = false ∧ regAt a = .cmd ∧ writeCmd d s = .next s') ∨
    (s.busy = false ∧ regAt a ≠ .cmd ∧ regAt a ≠ .status ∧ regAt a ≠ .ctrl ∧ s' = writeOperand (regAt a) d s) := by
  unfold regWrite at h
  cases hb : s.busy with
  | true =>
    simp only [hb, if_true, writeBusy] at h
    cases hw : inWblk a with
    | true => simp only [hw, if_true] at h; cases h; simp
    | false =>
      simp only [hw, Bool.false_eq_true, if_false] at h
      cases hr : regAt a <;> rw [hr] at h <;> cases h <;> simp
  | false =>
    simp only [hb, Bool.false_eq_true, if_false, writeIdle] at h
    cases hr : regAt a <;> rw [hr] at h <;> first | (cases h; simp) | simpa using h

/-- What the engine's step can do (43_system.md R101). -/
theorem completePending_cases {s s' : State} (h : completePending s = .next s') :
    (s.pending = none ∧ s' = s) ∨ (∃ op, s.pending = some op ∧ exec (instrOf op) s = .next s') := by
  unfold completePending at h
  cases hp : s.pending with
  | none => rw [hp] at h; cases h; exact .inl ⟨rfl, rfl⟩
  | some op => rw [hp] at h; exact .inr ⟨op, rfl, h⟩

/-- What an event can do. -/
theorem handle_cases {e : Event} {s s' : State} (h : handle e s = .next s') :
    (∃ t, e = .host t ∧ t.wr = true ∧ regWrite t.addr t.wdata s = .next s') ∨
    (∃ t, e = .host t ∧ t.wr = false ∧ s' = s.putRdata (regRead t.addr s)) ∨
    (e = .complete ∧ completePending s = .next s') ∨
    (e = .reset ∧ s' = s.applyReset) := by
  cases e with
  | complete => exact .inr (.inr (.inl ⟨rfl, h⟩))
  | reset => cases h; exact .inr (.inr (.inr ⟨rfl, rfl⟩))
  | host t =>
    simp only [handle, hostTransaction] at h
    cases hw : t.wr with
    | true => rw [hw] at h; exact .inl ⟨t, rfl, hw, h⟩
    | false => rw [hw] at h; cases h; exact .inr (.inl ⟨t, rfl, hw, rfl⟩)

/-- What a step can do: the engine's move when no event is left, else the first event. -/
theorem step_cases {s s' : State} (h : step s = .next s') :
    (s.inputs = [] ∧ completePending (s.next []) = .next s') ∨
    (∃ e rest, s.inputs = e :: rest ∧ handle e (s.next rest) = .next s') := by
  unfold step takeEvent at h
  cases hi : s.inputs with
  | nil => rw [hi] at h; exact .inl ⟨rfl, h⟩
  | cons e rest => rw [hi] at h; exact .inr ⟨e, rest, rfl, h⟩

theorem step_nil {s : State} (h : s.inputs = []) : step s = completePending (s.next []) := by
  simp [step, takeEvent, h]

theorem step_cons {s : State} {e : Event} {rest : List Event} (h : s.inputs = e :: rest) :
    step s = handle e (s.next rest) := by
  simp [step, takeEvent, h]

end Sys2Proof.Machine
end

