-- ==== Sys2Proof/Laws/PerInstr.lean ====
section
/-! SUPPORT. Facts about every command as syntax, one lemma per constructor. -/

namespace Sys2Proof.Laws

/-- The decoder reads a command back from its own word (30_encoding.md R61, R62). -/
def DecodeEncode.Statement (i : Instr) : Prop := decodeWord (encode i) = .ok i ∧ i.wf = true

theorem DecodeEncode.nop : DecodeEncode.Statement .nop := ⟨rfl, rfl⟩

theorem DecodeEncode.sbox : DecodeEncode.Statement .sbox := ⟨rfl, rfl⟩

theorem DecodeEncode.phase1 : DecodeEncode.Statement .phase1 := ⟨rfl, rfl⟩

theorem DecodeEncode.phase2 : DecodeEncode.Statement .phase2 := ⟨rfl, rfl⟩

theorem DecodeEncode.clr : DecodeEncode.Statement .clr := ⟨rfl, rfl⟩

end Sys2Proof.Laws
end

