-- ==== Sys2Proof/Laws/Step.lean ====
section
/-! SUPPORT. Everything a step can do, once and flat: the lemma that statements over all steps cite instead of unfolding
the step. -/

namespace Sys2Proof.Machine

/-- What one step does, by its event: a completion; nothing (an idle engine, an ignored write, a NOP); a reset; a read;
a write dropped with WERR; an acknowledgement; a CTRL write; an acceptance; an illegal command; an operand write. -/
theorem step_next_cases {s t : State} (h : step s = .next t) :
    (∃ op, NextCompletes s op ∧ ∃ r, exec (instrOf op) (s.next r) = .next t) ∨
    (∃ r, t = s.next r) ∨
    (NextIsReset s ∧ ∃ r, t = (s.next r).applyReset) ∨
    (∃ a r, t = (s.next r).putRdata (regRead a (s.next r))) ∨
    (∃ a d r, NextIsWrite s a d ∧ s.pending ≠ none ∧ inWblk a = true ∧ t = (s.next r).raise .writeWhileBusy) ∨
    (∃ d r, NextIsWrite s 0x01 d ∧ t = (s.next r).ackStatus d) ∨
    (∃ d r, NextIsWrite s 0x02 d ∧ t = (s.next r).setCtrl d) ∨
    (∃ c r op, s.pending = none ∧ NextIsWrite s 0x00 c ∧ decodeWord c = .ok (instrOf op) ∧ t = (s.next r).accept op) ∨
    (∃ c r e, s.pending = none ∧ NextIsWrite s 0x00 c ∧ decodeWord c = .error e ∧
      t = (s.next r).raise .illegalCommand) ∨
    (∃ a d r, s.pending = none ∧ NextIsWrite s a d ∧ t = writeOperand (regAt a) d (s.next r)) := by
  have inj : ∀ a : WordAddr,
      (regAt a = .status → a = 0x01) ∧ (regAt a = .ctrl → a = 0x02) ∧ (regAt a = .cmd → a = 0x00) := by decide
  rcases step_cases h with ⟨hi, hc⟩ | ⟨e, rest, hi, he⟩
  · rcases completePending_cases hc with ⟨_, rfl⟩ | ⟨op, hp, hx⟩
    · exact .inr (.inl ⟨_, rfl⟩)
    · exact .inl ⟨op, ⟨hp, .inl hi⟩, _, hx⟩
  · rcases handle_cases he with ⟨x, rfl, hw, hr⟩ | ⟨x, rfl, hw, rfl⟩ | ⟨rfl, hc⟩ | ⟨rfl, rfl⟩
    · have nw : NextIsWrite s x.addr x.wdata := ⟨x, rest, hi, hw, rfl, rfl⟩
      rcases regWrite_cases hr with
        ⟨hb, hk, rfl⟩ | ⟨ha, rfl⟩ | ⟨ha, rfl⟩ | ⟨_, _, rfl⟩ | ⟨hb, ha, hcmd⟩ | ⟨hb, h1, h2, h3, rfl⟩
      · refine .inr <| .inr <| .inr <| .inr <| .inl ⟨_, _, _, nw, ?_, hk, rfl⟩
        obtain ⟨op, hop⟩ := (State.busy_iff _).1 hb
        simp at hop
        simp [hop]
      · rw [(inj _).1 ha] at nw
        exact .inr <| .inr <| .inr <| .inr <| .inr <| .inl ⟨_, _, nw, rfl⟩
      · rw [(inj _).2.1 ha] at nw
        exact .inr <| .inr <| .inr <| .inr <| .inr <| .inr <| .inl ⟨_, _, nw, rfl⟩
      · exact .inr (.inl ⟨_, rfl⟩)
      · rw [(inj _).2.2 ha] at nw
        have hp : s.pending = none := (State.not_busy_iff _).1 hb
        rcases writeCmd_cases hcmd with ⟨_, rfl⟩ | ⟨op, hd, rfl⟩ | ⟨e, hd, rfl⟩
        · exact .inr (.inl ⟨_, rfl⟩)
        · exact .inr <| .inr <| .inr <| .inr <| .inr <| .inr <| .inr <| .inl ⟨_, _, op, hp, nw, hd, rfl⟩
        · exact .inr <| .inr <| .inr <| .inr <| .inr <| .inr <| .inr <| .inr <| .inl ⟨_, _, e, hp, nw, hd, rfl⟩
      · have hp : s.pending = none := (State.not_busy_iff _).1 hb
        exact .inr <| .inr <| .inr <| .inr <| .inr <| .inr <| .inr <| .inr <| .inr ⟨_, _, _, hp, nw, rfl⟩
    · exact .inr (.inr (.inr (.inl ⟨_, _, rfl⟩)))
    · rcases completePending_cases hc with ⟨_, rfl⟩ | ⟨op, hp, hx⟩
      · exact .inr (.inl ⟨_, rfl⟩)
      · exact .inl ⟨op, ⟨hp, .inr ⟨_, hi⟩⟩, _, hx⟩
    · exact .inr (.inr (.inl ⟨⟨_, hi⟩, _, rfl⟩))

end Sys2Proof.Machine
end

