-- ==== Sys2Proof/Tests/Slice0.lean ====
section
/-! SUPPORT. Tests: the smoke test of WellFormed, command words written out from 30_encoding.md, one-step tests with
values from 95_test_vectors.md, and a witness for every statement that has hypotheses. -/

namespace Sys2Proof.Tests

open Sys2Proof.Machine

/-! WellFormed: each check refuses an access that fails it and nothing else -/

theorem test_access_last_word_is_well_formed : HostAccess.wf 0x4000 ⟨true, 0x40FC, 4, 0⟩ = true := by decide

theorem test_access_below_window_is_ill_formed : HostAccess.wf 0x4000 ⟨false, 0x3FFC, 4, 0⟩ = false := by decide

theorem test_access_above_window_is_ill_formed : HostAccess.wf 0x4000 ⟨false, 0x4100, 4, 0⟩ = false := by decide

theorem test_access_misaligned_is_ill_formed : HostAccess.wf 0x4000 ⟨true, 0x4012, 4, 0⟩ = false := by decide

theorem test_access_narrow_is_ill_formed : HostAccess.wf 0x4000 ⟨true, 0x4010, 2, 0⟩ = false := by decide

theorem test_every_command_is_well_formed : ∀ i ∈ [Instr.nop, .sbox, .phase1, .phase2, .clr], i.wf = true := by decide

/-! Decode: the words of 30_encoding.md R61, bits 31..8 zero, opcode in bits 7..0 -/

theorem test_decode_nop : decodeWord 0b00000000000000000000000000000000 = .ok .nop := rfl

theorem test_decode_sbox : decodeWord 0b00000000000000000000000000000001 = .ok .sbox := rfl

theorem test_decode_phase1 : decodeWord 0b00000000000000000000000000000010 = .ok .phase1 := rfl

theorem test_decode_phase2 : decodeWord 0b00000000000000000000000000000011 = .ok .phase2 := rfl

theorem test_decode_clr : decodeWord 0b00000000000000000000000000000100 = .ok .clr := rfl

theorem test_decode_opcode_five : decodeWord 0x00000005 = .error .unassignedOpcode := rfl

theorem test_decode_opcode_ff : decodeWord 0x000000FF = .error .unassignedOpcode := rfl

/-- A good opcode under one reserved bit, the lowest and the highest (30_encoding.md R63). -/
theorem test_decode_reserved_bits :
    decodeWord 0x00000100 = .error .reservedBits ∧ decodeWord 0x80000001 = .error .reservedBits := ⟨rfl, rfl⟩

theorem test_decode_table_word :
    decodeTableWord 32 2 = some .phase1 ∧ decodeTableWord 8 4 = some .clr ∧ decodeTableWord 32 5 = none := ⟨rfl, rfl, rfl⟩

/-- Groups of 95_test_vectors.md section 8: `W 0x10 0x03020100`, `W 0x00 0x00000003`, `R 0x04`. -/
theorem test_transaction_groups :
    encodeTxn ⟨true, addrOf (.tk 0), 0x03020100⟩ = 0x4403020100 ∧ encodeTxn ⟨true, addrOf .cmd, 3⟩ = 0x4000000003 ∧
      encodeTxn ⟨false, addrOf .status, 0⟩ = 0x0100000000 := by decide

/-! States for the tests and witnesses -/

/-- Vector V1 of 95_test_vectors.md section 1.3 loaded, P1K included. -/
def vecOne : State :=
  { State.reset with
    tk := #v[0x00, 0x01, 0x02, 0x03, 0x04, 0x05, 0x06, 0x07, 0x08, 0x09, 0x0A, 0x0B, 0x0C, 0x0D, 0x0E, 0x0F]
    ta := #v[0x10, 0x22, 0x33, 0x44, 0x55, 0x66]
    p1k := #v[0x3DD2, 0x016E, 0x76F4, 0x8697, 0xB2E8]
    sboxIn := 0x1234 }

/-- A state with events to come. -/
def idleWith (es : List Event) : State := { vecOne with inputs := es }

/-- A state with a command pending and events to come. -/
def busyWith (op : Op) (es : List Event) : State := { vecOne with pending := some op, inputs := es }

/-- The state an outcome answers. -/
def nextOf (o : Host.Outcome State Fault Refusal) : State :=
  match o with
  | .next t => t
  | .fault _ => State.reset
  | .refused _ => State.reset

/-! One step of each command -/

theorem test_nop_leaves_done : (nextOf (exec .nop { vecOne with done := true })).done = true := rfl

theorem test_nop_write_accepts_nothing : (nextOf (step (idleWith [cmdWrite 0]))).pending = none := rfl

/-- 40_sbox.md R75: S(0x1234) = 0x70A1. -/
theorem test_sbox_result : (nextOf (step (busyWith .sbox [.complete]))).sboxOut = 0x70A1 := by decide +kernel

/-- 95_test_vectors.md section 2.1: S(0x00FF) = 0x89FC, the byte order of the index matters. -/
theorem test_sbox_low_byte_index : (nextOf (exec .sbox { vecOne with sboxIn := 0x00FF })).sboxOut = 0x89FC := by
  decide +kernel

/-- 95_test_vectors.md section 1.3, V1. -/
theorem test_phase1_v1 :
    (nextOf (exec .phase1 { vecOne with p1k := State.reset.p1k })).p1k = #v[0x3DD2, 0x016E, 0x76F4, 0x8697, 0xB2E8] := by
  decide +kernel

/-- 95_test_vectors.md section 1.3, V2: V1 with IV16 = 1. -/
theorem test_phase2_v2 :
    (nextOf (exec .phase2 { vecOne with iv16 := 1 })).rc4key =
      #v[0x00, 0x20, 0x01, 0x90, 0xFF, 0xDC, 0x31, 0x43, 0x89, 0xA9, 0xD9, 0xD0, 0x74, 0xFD, 0x20, 0xAA] := by
  decide +kernel

/-- 95_test_vectors.md section 1.3, V1, by the placed command: the result, BUSY gone, DONE set. -/
theorem test_phase2_step :
    let t := nextOf (step (vecOne.withFetchWord 32 3))
    t.rc4key[3] = 0x33 ∧ t.pending = none ∧ t.done = true := by
  decide +kernel

/-- 43_system.md R104: ILL, WERR and the enables survive CLR. -/
theorem test_clr_keeps_control :
    let t := nextOf (exec .clr { vecOne with ill := true, werr := true, ieErr := true })
    t.tk = State.reset.tk ∧ t.sboxIn = 0 ∧ t.done = true ∧ t.ill = true ∧ t.werr = true ∧ t.ieErr = true := by
  decide +kernel

/-- A table row's command placed after reset runs in the next step; NOP and an illegal word go through a CMD write. -/
theorem test_placed_commands_run :
    (nextOf (step (State.reset.withFetchWord 32 1))).sboxOut = 0x6363 ∧
      step (State.reset.withFetchWord 32 0) = .next State.reset ∧
      (nextOf (step (State.reset.withFetchWord 32 0x104))).ill = true := by
  refine ⟨by decide +kernel, rfl, rfl⟩

/-! Witnesses: a state and operands that meet a statement's hypotheses together -/

theorem witness_StepExecutesThePendingCommand :
    (busyWith .clr [.complete]).pending = some .clr ∧ (busyWith .clr [.complete]).inputs = .complete :: [] ∧
      (busyWith .phase1 []).pending = some .phase1 ∧ (busyWith .phase1 []).inputs = [] := ⟨rfl, rfl, rfl, rfl⟩

theorem witness_StepRunsTheDecodedCommand :
    let s := fun c => idleWith [.host ⟨true, 0x00, c⟩, .complete]
    (s 0).pending = none ∧ (s 0).inputs = .host ⟨true, 0x00, 0⟩ :: .complete :: [] ∧ decodeWord 0 = .ok .nop ∧
      (s 4).pending = none ∧ (s 4).inputs = .host ⟨true, 0x00, 4⟩ :: .complete :: [] ∧ decodeWord 4 = .ok .clr ∧
      Instr.clr ≠ .nop := ⟨rfl, rfl, rfl, rfl, rfl, rfl, by decide⟩

theorem witness_PlacedCommandIsTheAcceptedOne : vecOne.pending = none ∧ vecOne.rdata = none := ⟨rfl, rfl⟩

theorem witness_NopChangesNothing :
    (idleWith [.host ⟨true, 0x00, 0⟩]).inputs = .host ⟨true, 0x00, 0x00000000⟩ :: [] ∧
      (idleWith [.host ⟨true, 0x00, 0⟩]).pending = none ∧
      (busyWith .sbox [.host ⟨true, 0x00, 0⟩]).inputs = .host ⟨true, 0x00, 0x00000000⟩ :: [] ∧
      (busyWith .sbox [.host ⟨true, 0x00, 0⟩]).pending ≠ none := ⟨rfl, rfl, rfl, by decide⟩

/-- Two different states with equal operands, for each command; and a command run twice. -/
theorem witness_ResultsDependOnOperandsOnly :
    (∃ s t s' t' : State, s ≠ t ∧ exec .phase1 s = .next s' ∧ exec .phase1 t = .next t' ∧ s.tk = t.tk ∧ s.ta = t.ta ∧
      s.iv32 = t.iv32) ∧
    (∃ s t s' t' : State, s ≠ t ∧ exec .phase2 s = .next s' ∧ exec .phase2 t = .next t' ∧ s.tk = t.tk ∧ s.p1k = t.p1k ∧
      s.iv16 = t.iv16) ∧
    (∃ s t s' t' : State, s ≠ t ∧ exec .sbox s = .next s' ∧ exec .sbox t = .next t' ∧ s.sboxIn = t.sboxIn) ∧
    (∃ s s' s'' : State, exec .sbox s = .next s' ∧ exec .sbox s' = .next s'') :=
  ⟨⟨vecOne, { vecOne with ill := true }, _, _, by decide, rfl, rfl, rfl, rfl, rfl⟩,
    ⟨vecOne, { vecOne with ill := true }, _, _, by decide, rfl, rfl, rfl, rfl, rfl⟩,
    ⟨vecOne, { vecOne with ill := true }, _, _, by decide, rfl, rfl, rfl⟩, ⟨vecOne, _, _, rfl, rfl⟩⟩

/-- Both ends of the range of byte 1's forced bits: 0x20 and 0x7F are keys, 0x00 is none. -/
theorem witness_Phase2KeyInvariants :
    (∃ s t s' t' : State, exec .phase2 s = .next s' ∧ exec .phase2 t = .next t' ∧ s.tk = t.tk ∧ s.p1k = t.p1k ∧
      s.iv16 ≠ t.iv16) ∧
    (∃ s t : State, exec .phase2 s = .next t ∧ t.rc4key[1] = 0x20) ∧
    (∃ s t : State, exec .phase2 s = .next t ∧ t.rc4key[1] = 0x7F) ∧
    (∃ s t : State, exec .clr s = .next t) :=
  ⟨⟨vecOne, { vecOne with iv16 := 0xFFFF }, _, _, rfl, rfl, rfl, rfl, by decide⟩, ⟨vecOne, _, rfl, rfl⟩,
    ⟨{ vecOne with iv16 := 0xFFFF }, _, rfl, rfl⟩, ⟨vecOne, _, rfl⟩⟩

/-- A current key, an IV16 write that keeps it current, and PHASE2 on it. -/
theorem witness_CurrentP1kGivesThePacketKey :
    let s := idleWith [.host ⟨true, 0x0B, 0xFFFF⟩]
    (∃ t, exec .phase1 s = .next t) ∧ P1kCurrent s ∧ (∃ t, step s = .next t) ∧
      ¬ NextWritesOneOf s [.tk 0, .tk 1, .tk 2, .tk 3, .ta0, .ta1, .iv32, .p1k0, .p1k1, .p1k2] ∧
      ¬ NextCompletes s .clr ∧ ¬ NextIsReset s ∧ (∃ t, exec .phase2 s = .next t) := by
  refine ⟨⟨_, rfl⟩, by decide +kernel, ⟨_, rfl⟩, ?_, ?_, ?_, ⟨_, rfl⟩⟩
  · rintro ⟨-, a, d, ⟨t, r, hi, -, ha, -⟩, hr⟩
    cases hi
    subst ha
    revert hr
    decide
  · rintro ⟨h, -⟩
    cases h
  · rintro ⟨r, h⟩
    cases h

theorem witness_RegistersShowTheWords : ∃ t, exec .phase2 vecOne = .next t := ⟨_, rfl⟩

/-- A read while BUSY, and reserved read addresses at the ends of their ranges. -/
theorem witness_ReadsReturnTheMapAndChangeNothing :
    (busyWith .sbox [.host ⟨false, 0x15, 0⟩]).inputs = .host ⟨false, 0x15, 0⟩ :: [] ∧
      0x16 ≤ (0x16 : WordAddr).toNat ∧ 0x16 ≤ (0x3F : WordAddr).toNat := by decide

/-- The first and last address of each run of WBLK other than CMD, masked and unmasked. -/
theorem witness_OperandWriteReadsBackMasked :
    ∀ a ∈ [(0x04 : WordAddr), 0x08, 0x09, 0x0B, 0x0E, 0x14],
      (idleWith [.host ⟨true, a, 0xFFFFFFFF⟩]).pending = none ∧
        (idleWith [.host ⟨true, a, 0xFFFFFFFF⟩]).inputs = .host ⟨true, a, 0xFFFFFFFF⟩ :: [] ∧
        inWblk a = true ∧ a ≠ 0x00 := by decide

/-- Reserved and read-only addresses at the ends of their ranges, idle and BUSY. -/
theorem witness_ReservedAndReadOnlyWritesAreIgnored :
    ∀ a ∈ [(0x03 : WordAddr), 0x0F, 0x10, 0x13, 0x15, 0x16, 0x3F],
      (idleWith [.host ⟨true, a, 1⟩]).inputs = .host ⟨true, a, 1⟩ :: [] ∧
        (busyWith .clr [.host ⟨true, a, 1⟩]).inputs = .host ⟨true, a, 1⟩ :: [] ∧
        inWblk a = false ∧ a ≠ 0x01 ∧ a ≠ 0x02 := by decide

theorem witness_StatusWriteOneToClear :
    (busyWith .clr [.host ⟨true, 0x01, 0xE⟩]).inputs = .host ⟨true, 0x01, 0xE⟩ :: [] ∧
      (idleWith [.host ⟨true, 0x01, 0⟩]).inputs = .host ⟨true, 0x01, 0⟩ :: [] := ⟨rfl, rfl⟩

theorem witness_CtrlWriteSetsEnables :
    (busyWith .clr [.host ⟨true, 0x02, 0xFFFFFFFF⟩]).inputs = .host ⟨true, 0x02, 0xFFFFFFFF⟩ :: [] := rfl

theorem witness_InterruptLevelAndClearing :
    let s := idleWith [.host ⟨true, 0x01, 0xE⟩]
    let u := idleWith [.host ⟨true, 0x00, encode .sbox⟩]
    s.inputs = .host ⟨true, 0x01, 0xE⟩ :: [] ∧ (0xE : Word) &&& 0xE = 0xE ∧ (∃ t, step s = .next t) ∧
      u.pending = none ∧ u.inputs = .host ⟨true, 0x00, encode .sbox⟩ :: [] ∧ Instr.sbox ≠ .nop ∧ (∃ t, step u = .next t) :=
  ⟨rfl, rfl, ⟨_, rfl⟩, rfl, rfl, by decide, ⟨_, rfl⟩⟩

theorem witness_LoadsPutTheOperands :
    let s := fun l => idleWith (lineEvents l)
    (∀ l, (s l).pending = none) ∧ (s (.ldtk State.reset.tk)).inputs = lineEvents (.ldtk State.reset.tk) ++ [] ∧
      (s (.ldta State.reset.ta)).inputs = lineEvents (.ldta State.reset.ta) ++ [] ∧
      (s (.ldp1k State.reset.p1k)).inputs = lineEvents (.ldp1k State.reset.p1k) ++ [] := ⟨fun _ => rfl, rfl, rfl, rfl⟩

/-- The lowest and the highest illegal word, and a good opcode under a reserved bit. -/
theorem witness_IllegalCommandSetsIllOnly :
    ∀ c ∈ [(5 : Word), 0x00000104, 0xFFFFFFFF],
      (idleWith [.host ⟨true, 0x00, c⟩]).pending = none ∧
        (idleWith [.host ⟨true, 0x00, c⟩]).inputs = .host ⟨true, 0x00, c⟩ :: [] ∧ 5 ≤ c.toNat := by
  intro c hc
  fin_cases hc <;> exact ⟨rfl, rfl, by bv_omega⟩

theorem witness_BusyWriteSetsWerrOnly :
    ∀ a ∈ [(0x00 : WordAddr), 0x04, 0x0E, 0x14],
      (busyWith .phase2 [.host ⟨true, a, 5⟩]).pending = some .phase2 ∧
        (busyWith .phase2 [.host ⟨true, a, 5⟩]).inputs = .host ⟨true, a, 5⟩ :: [] ∧ inWblk a = true := by decide

theorem witness_ResetAbandonsEverything :
    (busyWith .phase2 [.reset]).inputs = .reset :: [] ∧ (idleWith [.reset]).inputs = .reset :: [] := ⟨rfl, rfl⟩

theorem witness_PendingEndsByCompletionOrReset :
    (busyWith .sbox [.complete]).pending = some .sbox ∧ (∃ t, step (busyWith .sbox [.complete]) = .next t) := ⟨rfl, _, rfl⟩

theorem witness_BusyNotDoneIsKept :
    BusyNotDone (busyWith .sbox []) ∧ (∃ t, step (busyWith .sbox []) = .next t) := ⟨fun _ => rfl, _, rfl⟩

/-- Steps that change RC4KEY, SBOX_OUT and P1K. -/
theorem witness_ResultsChangeOnlyAtCompletion :
    (∃ s t, step s = .next t ∧ t.rc4key ≠ s.rc4key) ∧ (∃ s t, step s = .next t ∧ t.sboxOut ≠ s.sboxOut) ∧
      (∃ s t, step s = .next t ∧ t.p1k ≠ s.p1k) :=
  ⟨⟨busyWith .phase2 [], _, rfl, by decide +kernel⟩, ⟨busyWith .sbox [], _, rfl, by decide +kernel⟩,
    ⟨idleWith [.reset], _, rfl, by decide +kernel⟩⟩

/-- Steps that change TK, TA, IV32, IV16 and SBOX_IN. -/
theorem witness_OperandsChangeOnlyByHostClrReset :
    (∃ s t, step s = .next t ∧ t.tk ≠ s.tk) ∧ (∃ s t, step s = .next t ∧ t.ta ≠ s.ta) ∧
      (∃ s t, step s = .next t ∧ t.iv32 ≠ s.iv32) ∧ (∃ s t, step s = .next t ∧ t.iv16 ≠ s.iv16) ∧
      (∃ s t, step s = .next t ∧ t.sboxIn ≠ s.sboxIn) :=
  ⟨⟨busyWith .clr [], _, rfl, by decide +kernel⟩, ⟨idleWith [.reset], _, rfl, by decide +kernel⟩,
    ⟨idleWith [.host ⟨true, 0x0A, 1⟩], _, rfl, by decide +kernel⟩,
    ⟨idleWith [.host ⟨true, 0x0B, 1⟩], _, rfl, by decide +kernel⟩,
    ⟨idleWith [.host ⟨true, 0x14, 1⟩], _, rfl, by decide +kernel⟩⟩

/-- Each of ILL, WERR, DONE and BUSY set by a step and cleared by a step; BUSY cleared by a completion event, by the move
with no event left, and by a reset. -/
theorem witness_EachFlagFollowsItsEvents :
    (∃ s t, step s = .next t ∧ s.ill = false ∧ t.ill = true) ∧ (∃ s t, step s = .next t ∧ s.ill = true ∧ t.ill = false) ∧
      (∃ s t, step s = .next t ∧ s.werr = false ∧ t.werr = true) ∧
      (∃ s t, step s = .next t ∧ s.werr = true ∧ t.werr = false) ∧
      (∃ s t, step s = .next t ∧ s.done = false ∧ t.done = true) ∧
      (∃ s t, step s = .next t ∧ s.done = true ∧ t.done = false) ∧
      (∃ s t, step s = .next t ∧ s.busy = false ∧ t.busy = true) ∧
      ∀ es ∈ [[Event.complete], [], [.reset]], ∃ t, step (busyWith .clr es) = .next t ∧
        (busyWith .clr es).busy = true ∧ t.busy = false :=
  ⟨⟨idleWith [cmdWrite 5], _, rfl, rfl, rfl⟩,
    ⟨{ idleWith [.host ⟨true, 0x01, 4⟩] with ill := true }, _, rfl, rfl, rfl⟩,
    ⟨busyWith .clr [.host ⟨true, 0x04, 0⟩], _, rfl, rfl, rfl⟩,
    ⟨{ idleWith [.host ⟨true, 0x01, 8⟩] with werr := true }, _, rfl, rfl, rfl⟩,
    ⟨busyWith .clr [.complete], _, rfl, rfl, rfl⟩, ⟨{ idleWith [cmdWrite 1] with done := true }, _, rfl, rfl, rfl⟩,
    ⟨idleWith [cmdWrite 1], _, rfl, rfl, rfl⟩, by
      intro es hes
      fin_cases hes <;> exact ⟨_, rfl, rfl, rfl⟩⟩

theorem witness_EnablesChangeOnlyByCtrlWrite :
    ∃ s t, step s = .next t ∧ (t.ieDone ≠ s.ieDone ∨ t.ieErr ≠ s.ieErr) :=
  ⟨idleWith [.host ⟨true, 0x02, 1⟩], _, rfl, .inl (by decide)⟩

theorem witness_HostCannotDisturbABusyBlock :
    let ts : List Txn := [⟨true, 0x04, 7⟩, ⟨false, 0x01, 0⟩]
    (busyWith .phase1 (ts.map .host ++ [.complete])).pending = some .phase1 ∧
      (busyWith .phase1 (ts.map .host ++ [.complete])).inputs = ts.map Event.host ++ [.complete] := ⟨rfl, rfl⟩

theorem witness_ResultIndependentOfBusyTraffic :
    let ts : List Txn := [⟨true, 0x00, 4⟩, ⟨true, 0x01, 8⟩]
    (busyWith .phase2 (ts.map .host ++ [.complete])).pending = some .phase2 ∧
      (busyWith .phase2 (ts.map .host ++ [.complete])).inputs = ts.map Event.host ++ .complete :: [] := ⟨rfl, rfl⟩

/-- Latency 1: due on the edge after acceptance, with a read and with a WBLK write on it. -/
theorem witness_SameEdgeHostGoesFirst :
    let c : Clocked := { state := busyWith .sbox [], age := 0 }
    c.state.pending = some .sbox ∧ c.due (fun _ => 1) = true ∧ (⟨false, 0x15, 0⟩ : Txn).wr = false ∧
      (⟨true, 0x14, 0⟩ : Txn).wr = true ∧ inWblk (⟨true, 0x14, 0⟩ : Txn).addr = true := by decide

/-- Latency 2, one edge and two edges. -/
theorem witness_CommandCompletesExactlyAtItsLatency :
    let lat : Op → Nat := fun _ => 2
    let c : Clocked := { state := busyWith .sbox [], age := 0 }
    let p : Pins := ⟨true, true, ⟨true, 0x14, 0⟩⟩
    (∀ op, 1 ≤ lat op) ∧ vecOne.pending = none ∧ c.state.pending = some .sbox ∧ c.age = 0 ∧
      (∀ q ∈ [p, p], q.rstN = true) ∧ [p].length < lat .sbox ∧ [p, p].length = lat .sbox := by
  refine ⟨fun _ => one_le_two, rfl, rfl, rfl, by decide, by decide, rfl⟩

theorem witness_ResetPinIgnoresTransactions : (⟨false, true, ⟨true, 0x02, 3⟩⟩ : Pins).rstN = false := rfl

/-- The first and the last word of the window, and the four ways out of it. -/
theorem witness_OnlyAlignedWordsReachTheBlock :
    txnOfAccess 256 ⟨true, 256, 4, 9⟩ = some ⟨true, 0x00, 9⟩ ∧ txnOfAccess 256 ⟨true, 508, 4, 9⟩ = some ⟨true, 0x3F, 9⟩ ∧
      txnOfAccess 256 ⟨true, 252, 4, 9⟩ = none ∧ txnOfAccess 256 ⟨true, 512, 4, 9⟩ = none ∧
      txnOfAccess 256 ⟨true, 257, 4, 9⟩ = none ∧ txnOfAccess 256 ⟨true, 256, 1, 9⟩ = none := by decide

end Sys2Proof.Tests
end

section
/-! PROOFS. The helper functions of 00_scope.md: word assembly `make16` with `lo8` and `hi8` (R8, R9), rotation `rotR1`
(R13). -/

namespace Sys2Proof.Machine

/-- XOR and OR agree on words that have no set bit in common. -/
theorem xor_eq_or_of_and_eq_zero {n : Nat} {x y : BitVec n} (h : x &&& y = 0#n) : x ^^^ y = x ||| y := by
  ext i hi
  have hbit : (x[i] && y[i]) = false := by
    rw [← BitVec.getElem_and, h, BitVec.getElem_zero]
  rw [BitVec.getElem_xor, BitVec.getElem_or]
  rcases Bool.and_eq_false_iff.mp hbit with hx | hy
  · simp [hx]
  · simp [hy]

/-- The low byte and the raised high byte have no set bit in common: bits below 8 against bits from 8 on. -/
theorem setWidth_and_shiftLeft_eq_zero (h l : Byte) : l.setWidth 16 &&& h.setWidth 16 <<< 8 = 0#16 := by
  apply BitVec.eq_of_getLsbD_eq
  intro i hi
  rw [BitVec.getLsbD_and, BitVec.getLsbD_shiftLeft, BitVec.getLsbD_setWidth, BitVec.getLsbD_zero]
  rcases Nat.lt_or_ge i 8 with hlow | hhigh
  · simp [hlow]
  · simp [BitVec.getLsbD_of_ge l i hhigh]

/-- The OR form of R9, which the document's §6 writes. -/
theorem make16_eq_or (h l : Byte) : make16 h l = (l.setWidth 16 ||| h.setWidth 16 <<< 8) :=
  xor_eq_or_of_and_eq_zero (setWidth_and_shiftLeft_eq_zero h l)

/-- Word assembly is concatenation, the first argument in the high bits. -/
theorem make16_eq_append (h l : Byte) : make16 h l = h ++ l := by
  rw [make16_eq_or, BitVec.or_comm, BitVec.append_def, BitVec.shiftLeftZeroExtend_eq, BitVec.setWidth'_eq]

theorem toNat_make16 (h l : Byte) : (make16 h l).toNat = 256 * h.toNat + l.toNat := by
  rw [make16_eq_append, BitVec.toNat_append, ← Nat.shiftLeft_add_eq_or_of_lt l.isLt, Nat.shiftLeft_eq, Nat.mul_comm]

@[simp] theorem hi8_make16 (h l : Byte) : hi8 (make16 h l) = h := by
  rw [make16_eq_append]
  exact BitVec.extractLsb'_append_eq_left

@[simp] theorem lo8_make16 (h l : Byte) : lo8 (make16 h l) = l := by
  rw [make16_eq_append]
  exact BitVec.extractLsb'_append_eq_right

@[simp] theorem make16_hi8_lo8 (v : Half) : make16 (hi8 v) (lo8 v) = v := by
  rw [make16_eq_append]
  exact (BitVec.extractLsb'_append_extractLsb'_eq_extractLsb' rfl).trans BitVec.extractLsb'_eq_self

/-- The formula's first term: the shift already leaves bit 15 clear, so its mask `0x7FFF` drops nothing. -/
theorem shiftRight_one_and_mask (v : Half) : (v >>> 1) &&& 0x7FFF = v >>> 1 := by
  have hlt : v.toNat >>> 1 < 2 ^ 15 := by
    have := v.isLt
    rw [Nat.shiftRight_eq_div_pow]
    omega
  apply BitVec.eq_of_toNat_eq
  rw [BitVec.toNat_and, BitVec.toNat_ushiftRight]
  exact (Nat.and_two_pow_sub_one_eq_mod _ 15).trans (Nat.mod_eq_of_lt hlt)

/-- The formula's second term: bit 0 alone, at place 15. -/
theorem getLsbD_and_one_shiftLeft (v : Half) {i : Nat} (hi : i < 16) :
    ((v &&& 1) <<< 15).getLsbD i = (decide (i = 15) && v.getLsbD 0) := by
  rw [BitVec.getLsbD_shiftLeft, BitVec.getLsbD_and]
  rcases Nat.lt_or_ge i 15 with hlow | hhigh
  · simp [hlow, Nat.ne_of_lt hlow]
  · obtain rfl : i = 15 := by omega
    simp

theorem getLsbD_rotR1 (v : Half) {i : Nat} (hi : i < 16) :
    (rotR1 v).getLsbD i = (v.getLsbD (i + 1) ^^ (decide (i = 15) && v.getLsbD 0)) := by
  rw [rotR1, shiftRight_one_and_mask, BitVec.getLsbD_xor, BitVec.getLsbD_ushiftRight, getLsbD_and_one_shiftLeft v hi,
    Nat.add_comm]

theorem getLsbD_rotR1_top (v : Half) : (rotR1 v).getLsbD 15 = v.getLsbD 0 := by
  rw [getLsbD_rotR1 v (by decide), BitVec.getLsbD_of_ge v _ (le_refl 16)]
  simp

theorem getLsbD_rotR1_of_lt (v : Half) {i : Nat} (hi : i < 15) : (rotR1 v).getLsbD i = v.getLsbD (i + 1) := by
  rw [getLsbD_rotR1 v (by omega), decide_eq_false (Nat.ne_of_lt hi), Bool.false_and, Bool.xor_false]

/-- Settles O18, from the bits of the formula's two terms; the rule's five examples are evaluated. -/
theorem rotR1RotatesAllSixteenBits : Obligations.RotR1RotatesAllSixteenBits := by
  unfold Obligations.RotR1RotatesAllSixteenBits
  refine ⟨fun _ => rfl, fun v => ⟨getLsbD_rotR1_top v, fun _ hi => getLsbD_rotR1_of_lt v hi⟩, ?_⟩
  decide

/-- Settles O19, from `make16` as a concatenation of two bytes. -/
theorem make16AssemblesAndSplits : Obligations.Make16AssemblesAndSplits := by
  unfold Obligations.Make16AssemblesAndSplits
  exact ⟨fun h l => ⟨toNat_make16 h l, rfl, make16_eq_or h l, hi8_make16 h l, lo8_make16 h l⟩, make16_hi8_lo8⟩

end Sys2Proof.Machine
end

section
/-! PROOFS. Command words as numbers (30_encoding.md R61 to R63): which words issue a command and which raise ILL. -/

namespace Sys2Proof

/-- A word is its two fields of format C, the reserved one above the opcode (R60). -/
theorem rsvField_append_opField (c : Word) : rsvField c ++ opField c = c :=
  (BitVec.extractLsb'_append_extractLsb'_eq_extractLsb' rfl).trans BitVec.extractLsb'_eq_self

/-- The decoder accepts exactly the encoder's words. -/
theorem decodeWord_eq_ok_iff (c : Word) (i : Instr) : decodeWord c = .ok i ↔ c = encode i := by
  constructor
  · intro h
    have hc : rsvField c ++ opField c = c := rsvField_append_opField c
    unfold decodeWord at h
    split_ifs at h with hrsv h0 h1 h2 h3 h4
    all_goals
      cases h
      rw [← hc, not_not.mp hrsv]
      simp [*, encode, opcodeOf]
  · rintro rfl
    exact Machine.decodeWord_encode i

/-- The five commands are the words 0 to 4 (R61). -/
theorem exists_eq_encode_iff (c : Word) : (∃ i, c = encode i) ↔ c.toNat ≤ 4 := by
  constructor
  · rintro ⟨i, rfl⟩
    cases i <;> decide
  · intro h
    have hc : c = BitVec.ofNat 32 c.toNat := by simp
    generalize c.toNat = n at h hc
    subst hc
    interval_cases n
    · exact ⟨.nop, rfl⟩
    · exact ⟨.sbox, rfl⟩
    · exact ⟨.phase1, rfl⟩
    · exact ⟨.phase2, rfl⟩
    · exact ⟨.clr, rfl⟩

/-- Every word from 5 on is no command (R63). -/
theorem five_le_of_decodeWord_error {c : Word} {e : DecodeError} (h : decodeWord c = .error e) : 5 ≤ c.toNat := by
  by_contra hlt
  obtain ⟨i, rfl⟩ := (exists_eq_encode_iff c).2 (by omega)
  rw [Machine.decodeWord_encode] at h
  cases h

theorem toNat_of_decodeWord_nop {c : Word} (h : decodeWord c = .ok .nop) : c.toNat = 0 := by
  rw [(decodeWord_eq_ok_iff c _).1 h]
  rfl

theorem toNat_of_decodeWord_instrOf {c : Word} {op : Machine.Op} (h : decodeWord c = .ok (Machine.instrOf op)) :
    1 ≤ c.toNat ∧ c.toNat ≤ 4 := by
  rw [(decodeWord_eq_ok_iff c _).1 h]
  cases op <;> decide

end Sys2Proof
end

section
/-! PROOFS. Which event a step takes, and what each kind of event may change: the frame of a command's execution, the
data registers under a step, the four flags under a host write. -/

namespace Sys2Proof.Machine

/-! The next event is one of a kind. -/

theorem NextIsWrite.iff_eq {s : State} {a : WordAddr} {d : Word} (h : NextIsWrite s a d) (a' : WordAddr) (d' : Word) :
    NextIsWrite s a' d' ↔ a = a' ∧ d = d' := by
  constructor
  · obtain ⟨x, _, hx, _, rfl, rfl⟩ := h
    rintro ⟨y, _, hy, _, rfl, rfl⟩
    rw [hx] at hy
    cases hy
    exact ⟨rfl, rfl⟩
  · rintro ⟨rfl, rfl⟩
    exact h

theorem NextIsWrite.not_reset {s : State} {a : WordAddr} {d : Word} (h : NextIsWrite s a d) : ¬ NextIsReset s := by
  obtain ⟨_, _, hx, _⟩ := h
  simp [NextIsReset, hx]

theorem NextIsWrite.not_completes {s : State} {a : WordAddr} {d : Word} (h : NextIsWrite s a d) (op : Op) :
    ¬ NextCompletes s op := by
  obtain ⟨_, _, hx, _⟩ := h
  simp [NextCompletes, hx]

theorem NextIsReset.not_write {s : State} (h : NextIsReset s) (a : WordAddr) (d : Word) : ¬ NextIsWrite s a d :=
  fun hw => hw.not_reset h

theorem NextIsReset.not_completes {s : State} (h : NextIsReset s) (op : Op) : ¬ NextCompletes s op := by
  obtain ⟨_, hx⟩ := h
  simp [NextCompletes, hx]

theorem NextCompletes.not_write {s : State} {op : Op} (h : NextCompletes s op) (a : WordAddr) (d : Word) :
    ¬ NextIsWrite s a d :=
  fun hw => hw.not_completes op h

theorem NextCompletes.not_reset {s : State} {op : Op} (h : NextCompletes s op) : ¬ NextIsReset s :=
  fun hr => hr.not_completes op h

/-- The next step is a read, or the move of an engine with nothing pending: no event that the flag table of R29 names. -/
structure NextIsQuiet (s : State) : Prop where
  not_completes : ∀ op, ¬ NextCompletes s op
  not_reset : ¬ NextIsReset s
  not_write : ∀ a d, ¬ NextIsWrite s a d

theorem nextIsQuiet_of_read {s : State} {x : Txn} {rest : List Event} (hi : s.inputs = .host x :: rest)
    (hx : x.wr = false) : NextIsQuiet s where
  not_completes := by simp [NextCompletes, hi]
  not_reset := by simp [NextIsReset, hi]
  not_write := by simp [NextIsWrite, hi, hx]

theorem nextIsQuiet_of_idle_engine {s : State} (hp : s.pending = none)
    (hi : s.inputs = [] ∨ ∃ rest, s.inputs = .complete :: rest) : NextIsQuiet s where
  not_completes := by simp [NextCompletes, hp]
  not_reset := by rcases hi with hi | ⟨_, hi⟩ <;> simp [NextIsReset, hi]
  not_write := by rcases hi with hi | ⟨_, hi⟩ <;> simp [NextIsWrite, hi]

/-- Every step is of one of four kinds: a completion, a reset, a host write, or quiet. -/
theorem step_kinds {s t : State} (h : step s = .next t) :
    (∃ op r, NextCompletes s op ∧ exec (instrOf op) (s.next r) = .next t) ∨
    (NextIsReset s ∧ ∃ r, t = (s.next r).applyReset) ∨
    (∃ a d r, NextIsWrite s a d ∧ regWrite a d (s.next r) = .next t) ∨
    (NextIsQuiet s ∧ ∃ r v, t = { s with inputs := r, rdata := v }) := by
  have engine : ∀ r, (s.inputs = [] ∨ ∃ rest, s.inputs = .complete :: rest) → completePending (s.next r) = .next t →
      (∃ op r, NextCompletes s op ∧ exec (instrOf op) (s.next r) = .next t) ∨
      (NextIsQuiet s ∧ ∃ r v, t = { s with inputs := r, rdata := v }) := by
    intro r hi hc
    rcases completePending_cases hc with ⟨hp, ht⟩ | ⟨op, hp, hx⟩
    · exact .inr ⟨nextIsQuiet_of_idle_engine hp hi, r, none, ht⟩
    · exact .inl ⟨op, r, ⟨hp, hi⟩, hx⟩
  rcases step_cases h with ⟨hi, hc⟩ | ⟨e, rest, hi, he⟩
  · exact (engine [] (.inl hi) hc).imp_right (.inr ∘ .inr)
  · rcases handle_cases he with ⟨x, rfl, hw, hr⟩ | ⟨x, rfl, hw, ht⟩ | ⟨rfl, hc⟩ | ⟨rfl, ht⟩
    · exact .inr <| .inr <| .inl ⟨x.addr, x.wdata, rest, ⟨x, rest, hi, hw, rfl, rfl⟩, hr⟩
    · exact .inr <| .inr <| .inr ⟨nextIsQuiet_of_read hi hw, rest, _, ht⟩
    · exact (engine rest (.inr ⟨rest, hi⟩) hc).imp_right (.inr ∘ .inr)
    · exact .inr <| .inl ⟨⟨rest, hi⟩, rest, ht⟩

/-! What the execution of a command leaves alone, and how it ends. -/

theorem exec_sameControl {i : Instr} {s t : State} (h : exec i s = .next t) : SameControl t s := by
  rcases exec_cases h with ⟨-, rfl⟩ | ⟨-, rfl⟩ | ⟨-, rfl⟩ | ⟨-, rfl⟩ | ⟨-, rfl⟩ <;> simp [SameControl]

/-- Every completion ends with nothing pending and DONE set (R101). -/
theorem exec_instrOf_ends {op : Op} {s t : State} (h : exec (instrOf op) s = .next t) :
    t.pending = none ∧ t.done = true := by
  cases op <;> cases h <;> exact ⟨rfl, rfl⟩

/-! The key and data registers, and the enables. -/

/-- What a step can do to the data registers and the enables: nothing, or it is a completion, a reset, an accepted operand
write, or a CTRL write. -/
theorem step_effect_cases {s t : State} (h : step s = .next t) :
    (SameData t s ∧ t.ieDone = s.ieDone ∧ t.ieErr = s.ieErr) ∨
    (∃ op r, NextCompletes s op ∧ exec (instrOf op) (s.next r) = .next t) ∨
    NextIsReset s ∨
    (∃ a d r, s.pending = none ∧ NextIsWrite s a d ∧ t = writeOperand (regAt a) d (s.next r)) ∨
    (∃ d r, NextIsWrite s 0x02 d ∧ t = (s.next r).setCtrl d) := by
  rcases step_next_cases h with ⟨op, hop, r, hx⟩ | ⟨r, rfl⟩ | ⟨hr, -⟩ | ⟨a, r, rfl⟩ | ⟨a, d, r, -, -, -, rfl⟩ |
    ⟨d, r, -, rfl⟩ | ⟨d, r, hw, ht⟩ | ⟨c, r, op, -, -, -, rfl⟩ | ⟨c, r, e, -, -, -, rfl⟩ | ⟨a, d, r, hp, hw, ht⟩
  · exact .inr (.inl ⟨op, r, hop, hx⟩)
  · exact .inl (by simp [SameData])
  · exact .inr (.inr (.inl hr))
  · exact .inl (by simp [SameData])
  · exact .inl (by simp [SameData])
  · exact .inl (by simp [SameData])
  · exact .inr (.inr (.inr (.inr ⟨d, r, hw, ht⟩)))
  · exact .inl (by simp [SameData])
  · exact .inl (by simp [SameData])
  · exact .inr (.inr (.inr (.inl ⟨a, d, r, hp, hw, ht⟩)))

/-- The register `f` is a function of the data registers which, of all commands, only those in `ops` change and, of all
operand writes, only those of a register in `rs`. -/
structure ChangedOnlyBy {α : Type} (f : State → α) (ops : List Op) (rs : List Reg) : Prop where
  ofSameData : ∀ {s t}, SameData t s → f t = f s
  ofExec : ∀ {op s t}, exec (instrOf op) s = .next t → op ∈ ops ∨ f t = f s
  ofWrite : ∀ r d s, r ∈ rs ∨ f (writeOperand r d s) = f s

/-- A step that changes such a register is a completion of one of its commands, a reset, or an accepted write of it. -/
theorem ChangedOnlyBy.step_cause {α : Type} {f : State → α} {ops : List Op} {rs : List Reg} (hf : ChangedOnlyBy f ops rs)
    {s t : State} (h : step s = .next t) (hne : f t ≠ f s) :
    (∃ op ∈ ops, NextCompletes s op) ∨ NextIsReset s ∨ NextWritesOneOf s rs := by
  have hnext : ∀ r, f (s.next r) = f s := fun r => hf.ofSameData (by simp [SameData])
  rcases step_effect_cases h with ⟨hsame, -⟩ | ⟨op, r, hop, hx⟩ | hr | ⟨a, d, r, hp, hw, rfl⟩ | ⟨d, r, -, rfl⟩
  · exact absurd (hf.ofSameData hsame) hne
  · rcases hf.ofExec hx with hmem | heq
    · exact .inl ⟨op, hmem, hop⟩
    · exact absurd (heq.trans (hnext r)) hne
  · exact .inr (.inl hr)
  · rcases hf.ofWrite (regAt a) d (s.next r) with hmem | heq
    · exact .inr (.inr ⟨hp, a, d, hw, hmem⟩)
    · exact absurd (heq.trans (hnext r)) hne
  · exact absurd (hf.ofSameData (by simp [SameData])) hne

theorem not_nextWritesOneOf_nil (s : State) : ¬ NextWritesOneOf s [] := by
  simp [NextWritesOneOf]

theorem rc4key_changedOnlyBy : ChangedOnlyBy State.rc4key [.phase2, .clr] [] where
  ofSameData := by simp +contextual
  ofExec {op _ _} h := by cases op <;> cases h <;> simp
  ofWrite r _ _ := .inr (by simp)

theorem sboxOut_changedOnlyBy : ChangedOnlyBy State.sboxOut [.sbox, .clr] [] where
  ofSameData := by simp +contextual
  ofExec {op _ _} h := by cases op <;> cases h <;> simp
  ofWrite r _ _ := .inr (by simp)

theorem p1k_changedOnlyBy : ChangedOnlyBy State.p1k [.phase1, .clr] [.p1k0, .p1k1, .p1k2] where
  ofSameData := by simp +contextual
  ofExec {op _ _} h := by cases op <;> cases h <;> simp
  ofWrite r _ _ := by cases r <;> simp [writeOperand]

/-- The five operand registers that only the host writes (R21 to R24, R27) are the same. -/
abbrev SameOperands (s t : State) : Prop :=
  s.tk = t.tk ∧ s.ta = t.ta ∧ s.iv32 = t.iv32 ∧ s.iv16 = t.iv16 ∧ s.sboxIn = t.sboxIn

/-- No command but CLR changes an operand register (R35). -/
theorem exec_sameOperands {op : Op} {s t : State} (h : exec (instrOf op) s = .next t) : op = .clr ∨ SameOperands t s := by
  cases op with
  | clr => exact .inl rfl
  | _ => cases h; simp [SameOperands]

/-- Of an operand register it is enough to know which host writes change it. -/
theorem operand_changedOnlyBy {α : Type} {f : State → α} {rs : List Reg} (hf : ∀ {s t}, SameOperands s t → f s = f t)
    (hwrite : ∀ r d s, r ∈ rs ∨ f (writeOperand r d s) = f s) : ChangedOnlyBy f [.clr] rs where
  ofSameData := fun ⟨htk, hta, hiv32, hiv16, _, _, hsboxIn, _⟩ => hf ⟨htk, hta, hiv32, hiv16, hsboxIn⟩
  ofExec h := (exec_sameOperands h).imp List.mem_singleton.2 hf
  ofWrite := hwrite

theorem tk_changedOnlyBy : ChangedOnlyBy State.tk [.clr] [.tk 0, .tk 1, .tk 2, .tk 3] :=
  operand_changedOnlyBy (fun ⟨htk, _⟩ => htk) fun r _ _ => by
    cases r with
    | tk n => left; revert n; decide
    | _ => exact .inr rfl

theorem ta_changedOnlyBy : ChangedOnlyBy State.ta [.clr] [.ta0, .ta1] :=
  operand_changedOnlyBy (fun ⟨_, hta, _⟩ => hta) fun r _ _ => by cases r <;> simp [writeOperand]

theorem iv32_changedOnlyBy : ChangedOnlyBy State.iv32 [.clr] [.iv32] :=
  operand_changedOnlyBy (fun ⟨_, _, hiv32, _⟩ => hiv32) fun r _ _ => by cases r <;> simp [writeOperand]

theorem iv16_changedOnlyBy : ChangedOnlyBy State.iv16 [.clr] [.iv16] :=
  operand_changedOnlyBy (fun ⟨_, _, _, hiv16, _⟩ => hiv16) fun r _ _ => by cases r <;> simp [writeOperand]

theorem sboxIn_changedOnlyBy : ChangedOnlyBy State.sboxIn [.clr] [.sboxIn] :=
  operand_changedOnlyBy (fun ⟨_, _, _, _, hsboxIn⟩ => hsboxIn) fun r _ _ => by cases r <;> simp [writeOperand]

/-! The four flags. -/

theorem regAt_eq_cmd_iff (a : WordAddr) : regAt a = .cmd ↔ a = 0x00 := by revert a; decide

theorem regAt_eq_status_iff (a : WordAddr) : regAt a = .status ↔ a = 0x01 := by revert a; decide

theorem regAt_eq_ctrl_iff (a : WordAddr) : regAt a = .ctrl ↔ a = 0x02 := by revert a; decide

/-- The four flags of R29 are the same, BUSY through `pending`. -/
abbrev SameFlags (s t : State) : Prop :=
  s.pending = t.pending ∧ s.done = t.done ∧ s.ill = t.ill ∧ s.werr = t.werr

/-- A host write's effect on the flags: none, or it is dropped with WERR, an acknowledgement, an acceptance, or an illegal
command; the first case says that it is none of the others. -/
theorem regWrite_flag_cases {a : WordAddr} {d : Word} {s t : State} (h : regWrite a d s = .next t) :
    (¬ (s.pending ≠ none ∧ inWblk a = true) ∧ a ≠ 0x01 ∧ ¬ (s.pending = none ∧ a = 0x00 ∧ 1 ≤ d.toNat) ∧
      SameFlags t s) ∨
    (s.pending ≠ none ∧ inWblk a = true ∧ a ≠ 0x01 ∧ t = s.raise .writeWhileBusy) ∨
    (inWblk a = false ∧ a = 0x01 ∧ t = s.ackStatus d) ∨
    (s.pending = none ∧ a = 0x00 ∧ (1 ≤ d.toNat ∧ d.toNat ≤ 4) ∧ ∃ op, t = s.accept op) ∨
    (s.pending = none ∧ a = 0x00 ∧ 5 ≤ d.toNat ∧ t = s.raise .illegalCommand) := by
  by_cases hack : a = 0x01
  · subst hack
    rw [regWrite_status rfl] at h
    cases h
    exact .inr (.inr (.inl ⟨by decide, rfl, rfl⟩))
  have not_idle (hb : s.busy = true) : s.pending ≠ none := fun hp => by simp [(State.not_busy_iff s).2 hp] at hb
  rcases regWrite_cases h with
    ⟨hb, ha, rfl⟩ | ⟨ha, -⟩ | ⟨ha, rfl⟩ | ⟨hb, ha, rfl⟩ | ⟨hb, ha, hc⟩ | ⟨hb, ha, -, -, rfl⟩
  · exact .inr (.inl ⟨not_idle hb, ha, hack, rfl⟩)
  · exact absurd ((regAt_eq_status_iff a).1 ha) hack
  · obtain rfl := (regAt_eq_ctrl_iff a).1 ha
    exact .inl ⟨fun hw => absurd hw.2 (by decide), hack, fun hc => absurd hc.2.1 (by decide), by simp [SameFlags]⟩
  · exact .inl ⟨by simp [ha], hack, fun hc => not_idle hb hc.1, by simp [SameFlags]⟩
  · obtain rfl := (regAt_eq_cmd_iff a).1 ha
    have hp := (State.not_busy_iff s).1 hb
    rcases writeCmd_cases hc with ⟨hd, rfl⟩ | ⟨op, hd, rfl⟩ | ⟨e, hd, rfl⟩
    · exact .inl ⟨fun hw => hw.1 hp, hack, by simp [toNat_of_decodeWord_nop hd], by simp [SameFlags]⟩
    · exact .inr (.inr (.inr (.inl ⟨hp, rfl, toNat_of_decodeWord_instrOf hd, op, rfl⟩)))
    · exact .inr (.inr (.inr (.inr ⟨hp, rfl, five_le_of_decodeWord_error hd, rfl⟩)))
  · have hp := (State.not_busy_iff s).1 hb
    exact .inl ⟨fun hw => hw.1 hp, hack, fun hc => ha ((regAt_eq_cmd_iff a).2 hc.2.1), by simp [SameFlags]⟩

theorem regWrite_busy_iff {a : WordAddr} {d : Word} {s t : State} (h : regWrite a d s = .next t) :
    t.busy = true ↔ (s.pending = none ∧ a = 0x00 ∧ 1 ≤ d.toNat ∧ d.toNat ≤ 4) ∨ s.busy = true := by
  rcases regWrite_flag_cases h with ⟨-, -, hcmd, hpending, -⟩ | ⟨hp, -, -, rfl⟩ | ⟨-, rfl, rfl⟩ |
    ⟨hp, ha, hd, op, rfl⟩ | ⟨-, -, hd, rfl⟩
  · rw [State.busy, State.busy, hpending]
    tauto
  · simp [hp]
  · simp
  · simp [hp, ha, hd]
  · simp [show ¬ d.toNat ≤ 4 by omega]

theorem regWrite_done_iff {a : WordAddr} {d : Word} {s t : State} (h : regWrite a d s = .next t) :
    t.done = true ↔ s.done = true ∧ ¬ (a = 0x01 ∧ d.getLsbD 1 = true) ∧
      ¬ (s.pending = none ∧ a = 0x00 ∧ 1 ≤ d.toNat ∧ d.toNat ≤ 4) := by
  rcases regWrite_flag_cases h with ⟨-, hack, hcmd, -, hdone, -⟩ | ⟨hp, -, hack, rfl⟩ | ⟨-, rfl, rfl⟩ |
    ⟨hp, ha, hd, op, rfl⟩ | ⟨-, ha, hd, rfl⟩
  · rw [hdone]
    tauto
  · rw [State.raise_werr_done]
    tauto
  · simp
  · simp [hp, ha, hd]
  · simp [ha, show ¬ d.toNat ≤ 4 by omega]

theorem regWrite_ill_iff {a : WordAddr} {d : Word} {s t : State} (h : regWrite a d s = .next t) :
    t.ill = true ↔ (s.pending = none ∧ a = 0x00 ∧ 5 ≤ d.toNat) ∨
      (s.ill = true ∧ ¬ (a = 0x01 ∧ d.getLsbD 2 = true)) := by
  rcases regWrite_flag_cases h with ⟨-, hack, hcmd, -, -, hill, -⟩ | ⟨hp, -, hack, rfl⟩ | ⟨-, rfl, rfl⟩ |
    ⟨-, ha, hd, op, rfl⟩ | ⟨hp, ha, hd, rfl⟩
  · have hcmd5 : ¬ (s.pending = none ∧ a = 0x00 ∧ 5 ≤ d.toNat) := fun ⟨hp, ha, hd⟩ => hcmd ⟨hp, ha, by omega⟩
    rw [hill]
    tauto
  · rw [State.raise_werr_ill]
    tauto
  · simp
  · simp [ha, show ¬ 5 ≤ d.toNat by omega]
  · simp [hp, ha, hd]

theorem regWrite_werr_iff {a : WordAddr} {d : Word} {s t : State} (h : regWrite a d s = .next t) :
    t.werr = true ↔ (s.pending ≠ none ∧ inWblk a = true) ∨
      (s.werr = true ∧ ¬ (a = 0x01 ∧ d.getLsbD 3 = true)) := by
  rcases regWrite_flag_cases h with ⟨hwblk, hack, -, -, -, -, hwerr⟩ | ⟨hp, ha, -, rfl⟩ | ⟨hwblk, rfl, rfl⟩ |
    ⟨hp, ha, -, op, rfl⟩ | ⟨hp, ha, -, rfl⟩
  · rw [hwerr]
    tauto
  · simp [hp, ha]
  · rw [hwblk]
    simp
  · simp [hp, ha]
  · simp [hp, ha]

end Sys2Proof.Machine
end

section
/-! PROOFS. The state: reset, the registers and the flags under every step. -/

namespace Sys2Proof.Machine

theorem readReg_reset (r : Reg) : readReg r State.reset = 0 := by
  cases r with
  | tk n => revert n; decide
  | rc4key n => revert n; decide
  | _ => rfl

/-- Settles O32, field by field; every register of the map reads 0. -/
theorem resetValues : Obligations.ResetValues := by
  unfold Obligations.ResetValues
  exact ⟨by decide, by decide, by decide, rfl, rfl, rfl, rfl, rfl, rfl, rfl, rfl, rfl, rfl, rfl,
    fun a => readReg_reset (regAt a)⟩

/-- Settles O37: nothing is pending after reset. -/
theorem busyNotDoneAtReset : Obligations.BusyNotDoneAtReset := fun hp => absurd rfl hp

/-- Settles O38, from the commands and the writes that each result register depends on. -/
theorem resultsChangeOnlyAtCompletion : Obligations.ResultsChangeOnlyAtCompletion := by
  unfold Obligations.ResultsChangeOnlyAtCompletion
  intro s t h
  refine ⟨fun hne => ?_, fun hne => ?_, fun hne => ?_⟩
  · simpa [not_nextWritesOneOf_nil, or_assoc] using rc4key_changedOnlyBy.step_cause h hne
  · simpa [not_nextWritesOneOf_nil, or_assoc] using sboxOut_changedOnlyBy.step_cause h hne
  · simpa [or_assoc] using p1k_changedOnlyBy.step_cause h hne

/-- A register that CLR alone of all commands changes is an operand register: its host write, a CLR completion or a reset. -/
theorem ChangedOnlyBy.operand_step_cause {α : Type} {f : State → α} {rs : List Reg} (hf : ChangedOnlyBy f [.clr] rs)
    {s t : State} (h : step s = .next t) (hne : f t ≠ f s) :
    NextWritesOneOf s rs ∨ NextCompletes s .clr ∨ NextIsReset s := by
  rcases hf.step_cause h hne with ⟨op, hop, hc⟩ | hr | hw
  · rw [List.mem_singleton.1 hop] at hc
    exact .inr (.inl hc)
  · exact .inr (.inr hr)
  · exact .inl hw

/-- Settles O39: of all commands CLR alone changes an operand register, and of all writes that register's own. -/
theorem operandsChangeOnlyByHostClrReset : Obligations.OperandsChangeOnlyByHostClrReset := by
  unfold Obligations.OperandsChangeOnlyByHostClrReset
  exact fun s t h => ⟨tk_changedOnlyBy.operand_step_cause h, ta_changedOnlyBy.operand_step_cause h,
    iv32_changedOnlyBy.operand_step_cause h, iv16_changedOnlyBy.operand_step_cause h,
    sboxIn_changedOnlyBy.operand_step_cause h⟩

theorem step_busy_iff {s t : State} (h : step s = .next t) :
    t.busy = true ↔ (s.pending = none ∧ ∃ c, NextIsWrite s 0x00 c ∧ 1 ≤ c.toNat ∧ c.toNat ≤ 4) ∨
      (s.busy = true ∧ ¬ NextIsReset s ∧ ¬ ∃ op, NextCompletes s op) := by
  rcases step_kinds h with ⟨op, r, hc, hx⟩ | ⟨hr, r, rfl⟩ | ⟨a, d, r, hw, hx⟩ | ⟨hq, r, v, rfl⟩
  · have hb : t.busy = false := (State.not_busy_iff t).2 (exec_instrOf_ends hx).1
    have hex : ∃ op, NextCompletes s op := ⟨op, hc⟩
    simp [hb, hex, hc.not_write]
  · have hb : ((s.next r).applyReset).busy = false := rfl
    simp [hb, hr, hr.not_write]
  · rw [regWrite_busy_iff hx]
    simp [hw.iff_eq, hw.not_reset, hw.not_completes]
  · simp [hq.not_write, hq.not_reset, hq.not_completes, State.busy]

theorem step_done_iff {s t : State} (h : step s = .next t) :
    t.done = true ↔ (∃ op, NextCompletes s op) ∨
      (s.done = true ∧ ¬ NextIsReset s ∧ ¬ (∃ d, NextIsWrite s 0x01 d ∧ d.getLsbD 1 = true) ∧
        ¬ (s.pending = none ∧ ∃ c, NextIsWrite s 0x00 c ∧ 1 ≤ c.toNat ∧ c.toNat ≤ 4)) := by
  rcases step_kinds h with ⟨op, r, hc, hx⟩ | ⟨hr, r, rfl⟩ | ⟨a, d, r, hw, hx⟩ | ⟨hq, r, v, rfl⟩
  · have hex : ∃ op, NextCompletes s op := ⟨op, hc⟩
    simp [(exec_instrOf_ends hx).2, hex]
  · have hb : State.reset.done = false := rfl
    simp [hb, hr, hr.not_completes]
  · rw [regWrite_done_iff hx]
    simp [hw.iff_eq, hw.not_reset, hw.not_completes]
  · simp [hq.not_write, hq.not_reset, hq.not_completes]

theorem step_ill_iff {s t : State} (h : step s = .next t) :
    t.ill = true ↔ (s.pending = none ∧ ∃ c, NextIsWrite s 0x00 c ∧ 5 ≤ c.toNat) ∨
      (s.ill = true ∧ ¬ NextIsReset s ∧ ¬ ∃ d, NextIsWrite s 0x01 d ∧ d.getLsbD 2 = true) := by
  rcases step_kinds h with ⟨op, r, hc, hx⟩ | ⟨hr, r, rfl⟩ | ⟨a, d, r, hw, hx⟩ | ⟨hq, r, v, rfl⟩
  · obtain ⟨hill, -⟩ := exec_sameControl hx
    simp [hill, hc.not_write, hc.not_reset]
  · have hb : State.reset.ill = false := rfl
    simp [hb, hr, hr.not_write]
  · rw [regWrite_ill_iff hx]
    simp [hw.iff_eq, hw.not_reset]
  · simp [hq.not_write, hq.not_reset]

theorem step_werr_iff {s t : State} (h : step s = .next t) :
    t.werr = true ↔ (s.pending ≠ none ∧ ∃ a d, NextIsWrite s a d ∧ inWblk a = true) ∨
      (s.werr = true ∧ ¬ NextIsReset s ∧ ¬ ∃ d, NextIsWrite s 0x01 d ∧ d.getLsbD 3 = true) := by
  rcases step_kinds h with ⟨op, r, hc, hx⟩ | ⟨hr, r, rfl⟩ | ⟨a, d, r, hw, hx⟩ | ⟨hq, r, v, rfl⟩
  · obtain ⟨-, hwerr, -⟩ := exec_sameControl hx
    simp [hwerr, hc.not_write, hc.not_reset]
  · have hb : State.reset.werr = false := rfl
    simp [hb, hr, hr.not_write]
  · rw [regWrite_werr_iff hx]
    simp [hw.iff_eq, hw.not_reset]
  · simp [hq.not_write, hq.not_reset]

/-- Settles O40, flag by flag, over the four kinds of step. -/
theorem eachFlagFollowsItsEvents : Obligations.EachFlagFollowsItsEvents := by
  unfold Obligations.EachFlagFollowsItsEvents
  exact fun s t h => ⟨step_busy_iff h, step_done_iff h, step_ill_iff h, step_werr_iff h⟩

/-- Settles O36, from what sets BUSY and DONE: a step that sets or keeps BUSY is no completion, and an acceptance clears
DONE. -/
theorem busyNotDoneIsKept : Obligations.BusyNotDoneIsKept := by
  unfold Obligations.BusyNotDoneIsKept BusyNotDone
  intro s t hs h hpending
  have hbusy : t.busy = true := (State.busy_iff t).2 (Option.ne_none_iff_exists'.1 hpending)
  rw [Bool.eq_false_iff]
  intro hdone
  rcases (step_busy_iff h).1 hbusy with haccepted | ⟨hb, -, hnone⟩ <;>
    rcases (step_done_iff h).1 hdone with ⟨op, hc⟩ | ⟨hd, -, -, hnot⟩
  · obtain ⟨-, c, hw, -⟩ := haccepted
    exact hw.not_completes op hc
  · exact hnot haccepted
  · exact hnone ⟨op, hc⟩
  · obtain ⟨op, hop⟩ := (State.busy_iff s).1 hb
    simp [hs (by simp [hop])] at hd

/-- Settles O41: of all that a step can do, a CTRL write and a reset alone write the enables. -/
theorem enablesChangeOnlyByCtrlWrite : Obligations.EnablesChangeOnlyByCtrlWrite := by
  unfold Obligations.EnablesChangeOnlyByCtrlWrite
  intro s t h hne
  rcases step_effect_cases h with ⟨-, hdone, herr⟩ | ⟨op, r, -, hx⟩ | hr | ⟨a, d, r, -, -, rfl⟩ | ⟨d, r, hw, -⟩
  · simp [hdone, herr] at hne
  · obtain ⟨-, -, hdone, herr⟩ := exec_sameControl hx
    simp [hdone, herr] at hne
  · exact .inl hr
  · simp at hne
  · exact .inr ⟨d, hw⟩

end Sys2Proof.Machine
end

section
/-! PROOFS. The lanes of a register word (20_memory.md R42, R43): a word taken apart into halves and bytes and put
together again, and the four words of a 16-byte array. -/

namespace Sys2Proof.Machine

/-! Halves of a word. -/

@[simp] theorem lo16_packHalves (h0 h1 : Half) : lo16 (packHalves h0 h1) = h0 :=
  BitVec.extractLsb'_append_eq_right

@[simp] theorem hi16_packHalves (h0 h1 : Half) : hi16 (packHalves h0 h1) = h1 :=
  BitVec.extractLsb'_append_eq_left

@[simp] theorem packHalves_lo16_hi16 (d : Word) : packHalves (lo16 d) (hi16 d) = d :=
  (BitVec.extractLsb'_append_extractLsb'_eq_extractLsb' rfl).trans BitVec.extractLsb'_eq_self

/-- A register of a single half carries zeros above it. -/
theorem setWidth_eq_packHalves (h : Half) : h.setWidth 32 = packHalves h 0 :=
  BitVec.setWidth_eq_append (by decide)

/-- A register of a single half keeps the low half of what is written. -/
theorem setWidth_lo16 (d : Word) : (lo16 d).setWidth 32 = d &&& 0x0000FFFF := by
  have hd : d.toNat % 2 ^ 16 < 2 ^ 32 := by omega
  apply BitVec.eq_of_toNat_eq
  rw [BitVec.toNat_and, BitVec.toNat_setWidth, lo16, BitVec.extractLsb'_toNat, Nat.shiftRight_zero, Nat.mod_eq_of_lt hd]
  exact (Nat.and_two_pow_sub_one_eq_mod _ 16).symm

/-! Bytes of a word, through its halves. -/

theorem packBytes_eq_packHalves (b0 b1 b2 b3 : Byte) :
    packBytes b0 b1 b2 b3 = packHalves (make16 b1 b0) (make16 b3 b2) := by
  rw [make16_eq_append, make16_eq_append, packBytes, BitVec.append_assoc]
  rfl

/-- A field inside a field is a field of the whole word. -/
theorem extractLsb'_extractLsb' {n i len : Nat} (start len' : Nat) (x : BitVec n) (h : i + len ≤ len') :
    (x.extractLsb' start len').extractLsb' i len = x.extractLsb' (start + i) len := by
  apply BitVec.eq_of_getLsbD_eq
  intro j hj
  simp [hj, show i + j < len' by omega, Nat.add_assoc]

theorem lo8_lo16 (d : Word) : lo8 (lo16 d) = lane d 0 := extractLsb'_extractLsb' 0 16 d (by decide)

theorem hi8_lo16 (d : Word) : hi8 (lo16 d) = lane d 1 := extractLsb'_extractLsb' 0 16 d (by decide)

theorem lo8_hi16 (d : Word) : lo8 (hi16 d) = lane d 2 := extractLsb'_extractLsb' 16 16 d (by decide)

theorem hi8_hi16 (d : Word) : hi8 (hi16 d) = lane d 3 := extractLsb'_extractLsb' 16 16 d (by decide)

theorem make16_lane_low (d : Word) : make16 (lane d 1) (lane d 0) = lo16 d := by
  rw [← hi8_lo16, ← lo8_lo16, make16_hi8_lo8]

theorem make16_lane_high (d : Word) : make16 (lane d 3) (lane d 2) = hi16 d := by
  rw [← hi8_hi16, ← lo8_hi16, make16_hi8_lo8]

/-- A word is its four lanes. -/
theorem packBytes_lane (d : Word) : packBytes (lane d 0) (lane d 1) (lane d 2) (lane d 3) = d := by
  rw [packBytes_eq_packHalves, make16_lane_low, make16_lane_high, packHalves_lo16_hi16]

/-- The register of two bytes keeps the low half of what is written. -/
theorem packBytes_lane_zero (d : Word) : packBytes (lane d 0) (lane d 1) 0 0 = d &&& 0x0000FFFF := by
  rw [packBytes_eq_packHalves, make16_lane_low, ← setWidth_lo16]
  exact (setWidth_eq_packHalves _).symm

/-- The bytes of two words fill a register with them, the first one low. -/
theorem packBytes_lo8_hi8 (u v : Half) : packBytes (lo8 u) (hi8 u) (lo8 v) (hi8 v) = v ++ u := by
  rw [packBytes_eq_packHalves, make16_hi8_lo8, make16_hi8_lo8]
  rfl

theorem lane_packBytes (b0 b1 b2 b3 : Byte) (k : Fin 4) : lane (packBytes b0 b1 b2 b3) k = #v[b0, b1, b2, b3][k] := by
  rw [packBytes_eq_packHalves]
  match k with
  | 0 => exact (lo8_lo16 _).symm.trans (by simp)
  | 1 => exact (hi8_lo16 _).symm.trans (by simp)
  | 2 => exact (lo8_hi16 _).symm.trans (by simp)
  | 3 => exact (hi8_hi16 _).symm.trans (by simp)

/-! The four words of a 16-byte array. -/

theorem lane_arrayWord (a : Vector Byte 16) (n k : Fin 4) : lane (arrayWord a n) k = a[4 * n.val + k.val] := by
  rw [arrayWord, lane_packBytes]
  match k with
  | 0 => rfl
  | 1 => rfl
  | 2 => rfl
  | 3 => rfl

theorem arrayWord_setArrayWord_same (a : Vector Byte 16) (n : Fin 4) (d : Word) :
    arrayWord (setArrayWord a n d) n = d := by
  simpa [arrayWord, setArrayWord, Vector.getElem_set] using packBytes_lane d

theorem arrayWord_setArrayWord_of_ne (a : Vector Byte 16) {m n : Fin 4} (h : m ≠ n) (d : Word) :
    arrayWord (setArrayWord a n d) m = arrayWord a m := by
  have frame (i : Nat) (hi : i < 16) (hout : i < 4 * n.val ∨ 4 * n.val + 3 < i) : (setArrayWord a n d)[i] = a[i] := by
    simp (disch := omega) only [setArrayWord, Vector.getElem_set_ne]
  have hne : m.val ≠ n.val := Fin.val_ne_of_ne h
  simp (disch := omega) only [arrayWord, frame]

/-- Each half of a register of the Temporal Key is one of its little-endian words (R42). -/
theorem arrayWord_eq_packHalves_tk16 (tk : Vector Byte 16) (n : Fin 4) :
    arrayWord tk n = packHalves (tk16 tk ⟨2 * n.val, by omega⟩) (tk16 tk ⟨2 * n.val + 1, by omega⟩) := by
  rw [arrayWord, packBytes_eq_packHalves]
  match n with
  | 0 => rfl
  | 1 => rfl
  | 2 => rfl
  | 3 => rfl

end Sys2Proof.Machine
end

section
/-! PROOFS. The register window (20_memory.md R41, R45, R46): which addresses name which register, what a read depends on,
and what an operand write does to every read. -/

namespace Sys2Proof.Machine

/-! Addresses. -/

/-- A named register has one address. -/
theorem addrOf_regAt {a : WordAddr} (h : regAt a ≠ .reserved) : addrOf (regAt a) = a := by revert a; decide

theorem regRead_addrOf (r : Reg) (s : State) : regRead (addrOf r) s = readReg r s := by rw [regRead, regAt_addrOf]

theorem regAt_reserved {a : WordAddr} (h : a = 0x03 ∨ a = 0x0F ∨ 0x16 ≤ a.toNat) : regAt a = .reserved := by
  revert a; decide

theorem regAt_tk (n : Fin 4) : regAt (BitVec.ofNat 6 (4 + n.val)) = .tk n := by revert n; decide

theorem regAt_rc4key (n : Fin 4) : regAt (BitVec.ofNat 6 (16 + n.val)) = .rc4key n := by revert n; decide

/-- The bits of a register that an operand write while not BUSY replaces (R41): none unless it is an operand register. -/
def operandMask : Reg → Word
  | .tk _ | .ta0 | .iv32 | .p1k0 | .p1k1 => 0xFFFFFFFF
  | .ta1 | .iv16 | .p1k2 | .sboxIn => 0x0000FFFF
  | .cmd | .status | .ctrl | .rc4key _ | .sboxOut | .reserved => 0

theorem operandMask_of_inWblk {a : WordAddr} (h : inWblk a = true) (ha : a ≠ 0x00) :
    operandMask (regAt a) = if a = 0x09 ∨ a = 0x0B ∨ a = 0x0E ∨ a = 0x14 then 0x0000FFFF else 0xFFFFFFFF := by
  revert a; decide

/-- Outside WBLK there is no operand register. -/
theorem operandMask_of_not_inWblk {a : WordAddr} (h : inWblk a = false) : operandMask (regAt a) = 0 := by
  revert a; decide

/-- The registers with an operand mask are no control registers. -/
theorem not_control_of_operandMask {r : Reg} (h : operandMask r ≠ 0) : r ≠ .cmd ∧ r ≠ .status ∧ r ≠ .ctrl := by
  refine ⟨?_, ?_, ?_⟩ <;> rintro rfl <;> exact h rfl

/-! Reads. -/

@[simp] theorem readReg_next (r : Reg) (rest : List Event) (s : State) : readReg r (s.next rest) = readReg r s := by
  cases r <;> rfl

@[simp] theorem regRead_next (a : WordAddr) (rest : List Event) (s : State) :
    regRead a (s.next rest) = regRead a s := readReg_next (regAt a) rest s

/-- All registers but STATUS and CTRL are functions of the data registers. -/
theorem readReg_of_sameData {s t : State} (h : SameData t s) {r : Reg} (hs : r ≠ .status) (hc : r ≠ .ctrl) :
    readReg r t = readReg r s := by
  obtain ⟨htk, hta, hiv32, hiv16, hp1k, hrc4key, hsboxIn, hsboxOut⟩ := h
  cases r with
  | status => exact absurd rfl hs
  | ctrl => exact absurd rfl hc
  | _ => simp only [readReg, htk, hta, hiv32, hiv16, hp1k, hrc4key, hsboxIn, hsboxOut]

/-- STATUS carries WERR, ILL, DONE and BUSY in bits 3 to 0 (R45). -/
theorem toNat_statusWord (s : State) :
    s.statusWord.toNat = (if s.pending = none then 0 else 1) + (if s.done then 2 else 0) + (if s.ill then 4 else 0) +
      (if s.werr then 8 else 0) := by
  have bits : ∀ werr ill done busy : Bool,
      ((BitVec.ofBool werr ++ BitVec.ofBool ill ++ BitVec.ofBool done ++ BitVec.ofBool busy).setWidth 32).toNat =
        (if busy = false then 0 else 1) + (if done then 2 else 0) + (if ill then 4 else 0) + (if werr then 8 else 0) := by
    decide
  simp only [State.statusWord, bits, State.not_busy_iff]

/-- CTRL carries IE_ERR and IE_DONE in bits 1 and 0 (R45). -/
theorem toNat_ctrlWord (s : State) :
    s.ctrlWord.toNat = (if s.ieDone then 1 else 0) + (if s.ieErr then 2 else 0) := by
  have bits : ∀ ieErr ieDone : Bool, ((BitVec.ofBool ieErr ++ BitVec.ofBool ieDone).setWidth 32).toNat =
      (if ieDone then 1 else 0) + (if ieErr then 2 else 0) := by
    decide
  exact bits s.ieErr s.ieDone

/-! Operand writes. -/

/-- A register without an operand mask ignores an operand write. -/
theorem writeOperand_of_operandMask_zero {r : Reg} (h : operandMask r = 0) (d : Word) (s : State) :
    writeOperand r d s = s := by
  cases r with
  | cmd | status | ctrl | rc4key _ | sboxOut | reserved => rfl
  | _ => simp [operandMask] at h

/-- An operand register reads back what was written, under its mask. -/
theorem readReg_writeOperand_same {r : Reg} (h : operandMask r ≠ 0) (d : Word) (s : State) :
    readReg r (writeOperand r d s) = d &&& operandMask r := by
  have hfull : d &&& 0xFFFFFFFF = d := BitVec.and_allOnes
  cases r with
  | tk n => exact (arrayWord_setArrayWord_same s.tk n d).trans hfull.symm
  | ta0 => exact Eq.trans (by simpa [readReg, writeOperand, Vector.getElem_set] using packBytes_lane d) hfull.symm
  | ta1 => simpa [readReg, writeOperand, operandMask, Vector.getElem_set] using packBytes_lane_zero d
  | iv32 => exact hfull.symm
  | iv16 => exact setWidth_lo16 d
  | p1k0 => exact Eq.trans (by simp [readReg, writeOperand]) hfull.symm
  | p1k1 => exact Eq.trans (by simp [readReg, writeOperand]) hfull.symm
  | p1k2 => simpa [readReg, writeOperand, operandMask] using setWidth_lo16 d
  | sboxIn => exact setWidth_lo16 d
  | cmd | status | ctrl | rc4key _ | sboxOut | reserved => exact absurd rfl h

/-- Every other register reads as before: of the registers that share an array, each has its own part. -/
theorem readReg_writeOperand_of_ne {r q : Reg} (h : q ≠ r) (d : Word) (s : State) :
    readReg q (writeOperand r d s) = readReg q s := by
  cases r with
  | tk n =>
    cases q with
    | tk m => exact arrayWord_setArrayWord_of_ne s.tk (fun hmn => h (congrArg Reg.tk hmn)) d
    | _ => rfl
  | ta0 =>
    cases q with
    | ta0 => exact absurd rfl h
    | ta1 => simp [readReg, writeOperand]
    | _ => rfl
  | ta1 =>
    cases q with
    | ta0 => simp [readReg, writeOperand]
    | ta1 => exact absurd rfl h
    | _ => rfl
  | p1k0 =>
    cases q with
    | p1k0 => exact absurd rfl h
    | p1k1 => simp [readReg, writeOperand]
    | p1k2 => simp [readReg, writeOperand]
    | _ => rfl
  | p1k1 =>
    cases q with
    | p1k0 => simp [readReg, writeOperand]
    | p1k1 => exact absurd rfl h
    | p1k2 => simp [readReg, writeOperand]
    | _ => rfl
  | p1k2 =>
    cases q with
    | p1k0 => simp [readReg, writeOperand]
    | p1k1 => simp [readReg, writeOperand]
    | p1k2 => exact absurd rfl h
    | _ => rfl
  | iv32 =>
    cases q with
    | iv32 => exact absurd rfl h
    | _ => rfl
  | iv16 =>
    cases q with
    | iv16 => exact absurd rfl h
    | _ => rfl
  | sboxIn =>
    cases q with
    | sboxIn => exact absurd rfl h
    | _ => rfl
  | cmd | status | ctrl | rc4key _ | sboxOut | reserved => rfl

/-! The same by address, and the steps. -/

theorem regRead_writeOperand_of_ne {a b : WordAddr} (h : b ≠ a) (ha : operandMask (regAt a) ≠ 0) (d : Word)
    (s : State) : regRead b (writeOperand (regAt a) d s) = regRead b s := by
  apply readReg_writeOperand_of_ne
  intro heq
  have hnamed : regAt a ≠ .reserved := fun hr => ha (by rw [hr]; rfl)
  exact h (by rw [← addrOf_regAt hnamed, ← heq, addrOf_regAt (heq ▸ hnamed)])

theorem step_read {s : State} {a : WordAddr} {x : Word} {rest : List Event} (hi : s.inputs = .host ⟨false, a, x⟩ :: rest) :
    step s = .next ((s.next rest).putRdata (regRead a s)) := by
  rw [step_cons hi, ← regRead_next a rest s]
  rfl

theorem step_write {s : State} {a : WordAddr} {d : Word} {rest : List Event} (hi : s.inputs = .host ⟨true, a, d⟩ :: rest) :
    step s = regWrite a d (s.next rest) :=
  step_cons hi

theorem regWrite_idle {s : State} (hp : s.pending = none) (a : WordAddr) (d : Word) :
    regWrite a d s = writeIdle a d s :=
  hostTransaction_idle a d hp

theorem regWrite_busy {s : State} (hp : s.pending ≠ none) (a : WordAddr) (d : Word) :
    regWrite a d s = writeBusy a d s :=
  hostTransaction_busy a d hp

/-- A write of an operand register while not BUSY. -/
theorem regWrite_operand {s : State} (hp : s.pending = none) {a : WordAddr} (ha : operandMask (regAt a) ≠ 0) (d : Word) :
    regWrite a d s = .next (writeOperand (regAt a) d s) := by
  obtain ⟨hcmd, hstatus, hctrl⟩ := not_control_of_operandMask ha
  rw [regWrite_idle hp, writeIdle_operand hcmd hstatus hctrl]

/-- A write outside WBLK that is neither STATUS nor CTRL is ignored, BUSY or not. -/
theorem regWrite_ignored {a : WordAddr} (hw : inWblk a = false) (hs : a ≠ 0x01) (hc : a ≠ 0x02) (d : Word) (s : State) :
    regWrite a d s = .next s := by
  have hcmd : regAt a ≠ .cmd := fun h => by rw [(regAt_eq_cmd_iff a).1 h] at hw; exact absurd hw (by decide)
  have hstatus : regAt a ≠ .status := mt (regAt_eq_status_iff a).1 hs
  have hctrl : regAt a ≠ .ctrl := mt (regAt_eq_ctrl_iff a).1 hc
  by_cases hp : s.pending = none
  · rw [regWrite_idle hp, writeIdle_operand hcmd hstatus hctrl,
      writeOperand_of_operandMask_zero (operandMask_of_not_inWblk hw)]
  · rw [regWrite_busy hp, writeBusy]
    simp [hw]

end Sys2Proof.Machine
end

section
/-! PROOFS. Host traffic on a BUSY block (20_memory.md R45, R47, R51): it does not disturb the engine, and a completion
afterwards, on the same clock edge or later, gives the data registers it would have given before. -/

namespace Sys2Proof.Machine

/-! States with the same data registers. -/

theorem SameData.trans {s t u : State} (h : SameData u t) (h' : SameData t s) : SameData u s := by
  obtain ⟨h1, h2, h3, h4, h5, h6, h7, h8⟩ := h
  obtain ⟨k1, k2, k3, k4, k5, k6, k7, k8⟩ := h'
  exact ⟨h1.trans k1, h2.trans k2, h3.trans k3, h4.trans k4, h5.trans k5, h6.trans k6, h7.trans k7, h8.trans k8⟩

/-- A command's effect on the data registers depends on the data registers alone. -/
theorem exec_sameData {i : Instr} {s t s' t' : State} (h : SameData s t) (hs : exec i s = .next s')
    (ht : exec i t = .next t') : SameData s' t' := by
  obtain ⟨htk, hta, hiv32, hiv16, hp1k, hrc4key, hsboxIn, hsboxOut⟩ := h
  cases i with
  | nop => cases hs; cases ht; simp [SameData, *]
  | sbox => cases hs; cases ht; simp [SameData, *]
  | phase1 => cases hs; cases ht; simp [SameData, *]
  | phase2 => cases hs; cases ht; simp [SameData, *]
  | clr => cases hs; cases ht; simp [SameData]

/-- A command leaves the read-data output alone. -/
theorem exec_rdata {i : Instr} {s t : State} (h : exec i s = .next t) : t.rdata = s.rdata := by
  rcases exec_cases h with ⟨-, rfl⟩ | ⟨-, rfl⟩ | ⟨-, rfl⟩ | ⟨-, rfl⟩ | ⟨-, rfl⟩ <;> simp

/-! Traffic. -/

/-- `t` is `s` as far as the engine goes: the pending command, its operands and results, W, and the events to come. -/
structure Undisturbed (t s : State) : Prop where
  pending : t.pending = s.pending
  data : SameData t s
  w : t.w = s.w
  inputs : t.inputs = s.inputs

theorem writeBusy_undisturbed (a : WordAddr) (d : Word) (s : State) :
    ∃ t, writeBusy a d s = .next t ∧ Undisturbed t s := by
  unfold writeBusy
  split
  · exact ⟨_, rfl, by constructor <;> simp [SameData]⟩
  · split <;> exact ⟨_, rfl, by constructor <;> simp [SameData]⟩

/-- A host transaction on a BUSY block answers a next state and does not disturb the engine. -/
theorem hostTransaction_undisturbed (x : Txn) {s : State} (hp : s.pending ≠ none) :
    ∃ t, hostTransaction x s = .next t ∧ Undisturbed t s := by
  obtain ⟨wr, a, d⟩ := x
  cases wr with
  | false => exact ⟨_, hostTransaction_read a d s, by constructor <;> simp [SameData]⟩
  | true =>
    rw [hostTransaction_busy a d hp]
    exact writeBusy_undisturbed a d s

/-- Any number of them, each its own step. -/
theorem reaches_of_host_events {op : Op} {rest : List Event} (xs : List Txn) {s : State} (hp : s.pending = some op)
    (hi : s.inputs = xs.map Event.host ++ rest) :
    ∃ t, Reaches xs.length s t ∧ t.pending = some op ∧ SameData t s ∧ t.w = s.w ∧ t.inputs = rest := by
  induction xs generalizing s with
  | nil => exact ⟨s, rfl, hp, by simp [SameData], rfl, hi⟩
  | cons x xs ih =>
    obtain ⟨u, hx, hu⟩ := hostTransaction_undisturbed x (s := s.next (xs.map Event.host ++ rest)) (by simp [hp])
    have hstep : step s = .next u := (step_cons hi).trans hx
    obtain ⟨t, hreach, hpt, hdata, hw, hrest⟩ := ih (hu.pending.trans hp) hu.inputs
    exact ⟨t, ⟨u, hstep, hreach⟩, hpt, hdata.trans hu.data, hw.trans hu.w, hrest⟩

/-! A clock edge. -/

theorem handleAll_cons {e : Event} {s t : State} (h : handle e s = .next t) (es : List Event) :
    handleAll (e :: es) s = handleAll es t := by
  simp [handleAll, h]

/-- An edge out of reset on which a transaction meets the due completion: the transaction, then the completion. -/
theorem clockEdge_due {lat : Op → Nat} {c : Clocked} {op : Op} {x : Txn} {u v : State} (hdue : c.due lat = true)
    (hx : hostTransaction x (c.state.next c.state.inputs) = .next u) (hp : u.pending = some op)
    (hv : exec (instrOf op) u = .next v) :
    clockEdge lat ⟨true, true, x⟩ c = .next ⟨v, c.nextAge lat ⟨true, true, x⟩⟩ := by
  have hevents : edgeEvents (c.due lat) ⟨true, true, x⟩ = [.host x, .complete] := by simp [edgeEvents, hdue]
  have hhost : handle (.host x) (c.state.next c.state.inputs) = .next u := hx
  have hcomplete : handle .complete u = .next v := (completePending_some hp).trans hv
  have hall : handleAll [.host x, .complete] (c.state.next c.state.inputs) = .next v := by
    rw [handleAll_cons hhost, handleAll_cons hcomplete, handleAll]
  rw [clockEdge, hevents, hall]

end Sys2Proof.Machine
end

section
/-! PROOFS. The statements about the register window, WBLK, the host on a BUSY block, and accesses. -/

namespace Sys2Proof.Machine

/-- Settles O20, from the halves of a register word. -/
theorem registersShowTheWords : Obligations.RegistersShowTheWords := by
  unfold Obligations.RegistersShowTheWords
  refine ⟨fun s n => ?_, fun s => ?_, fun s t h => ?_⟩
  · rw [regRead_addrOf, readReg, arrayWord_eq_packHalves_tk16]
    exact ⟨lo16_packHalves _ _, hi16_packHalves _ _⟩
  · simp only [regRead_addrOf, readReg, packBytes_eq_packHalves, lo16_packHalves, hi16_packHalves]
    exact ⟨rfl, rfl, rfl, rfl, rfl⟩
  · cases h
    simp only [regRead_addrOf, readReg]
    exact ⟨packBytes_lo8_hi8 _ _, packBytes_lo8_hi8 _ _, packBytes_lo8_hi8 _ _⟩

/-- Settles O21, register by register. -/
theorem readsReturnTheMapAndChangeNothing : Obligations.ReadsReturnTheMapAndChangeNothing := by
  unfold Obligations.ReadsReturnTheMapAndChangeNothing
  refine ⟨fun s a x rest hi => step_read hi, fun s => ⟨rfl, toNat_statusWord s, toNat_ctrlWord s, ?tk, ?ta0, ?ta1, rfl,
    setWidth_eq_packHalves _, rfl, rfl, setWidth_eq_packHalves _, ?rc4key, setWidth_eq_packHalves _,
    setWidth_eq_packHalves _, ?reserved⟩⟩
  case tk =>
    intro n k
    rw [regRead, regAt_tk]
    exact lane_arrayWord s.tk n k
  case ta0 =>
    intro k
    have hlane := lane_packBytes s.ta[0] s.ta[1] s.ta[2] s.ta[3] k
    match k with
    | 0 | 1 | 2 | 3 => exact hlane
  case ta1 =>
    have hreg : regRead 0x09 s = packBytes s.ta[4] s.ta[5] 0 0 := rfl
    rw [hreg, packBytes_eq_packHalves, make16_eq_append s.ta[5]]
    rfl
  case rc4key =>
    intro n k
    rw [regRead, regAt_rc4key]
    exact lane_arrayWord s.rc4key n k
  case reserved =>
    intro a ha
    rw [regRead, regAt_reserved ha]
    rfl

/-- Settles O22, from what an operand write does to the read of its own and of every other register. -/
theorem operandWriteReadsBackMasked : Obligations.OperandWriteReadsBackMasked := by
  unfold Obligations.OperandWriteReadsBackMasked
  intro s a d rest hp hi hw ha
  have hmask := operandMask_of_inWblk hw ha
  have hne : operandMask (regAt a) ≠ 0 := by
    rw [hmask]
    split <;> decide
  refine ⟨writeOperand (regAt a) d (s.next rest), ?step, ?same, ?others, ?frame⟩
  case step => exact (step_write hi).trans (regWrite_operand (s := s.next rest) hp hne d)
  case same =>
    rw [regRead, readReg_writeOperand_same hne, hmask]
    split
    · rfl
    · exact BitVec.and_allOnes
  case others => exact fun b hb => (regRead_writeOperand_of_ne hb hne d _).trans (regRead_next b rest s)
  case frame => simp [SameControl, hp]

/-- Settles O42, by induction on the list of transactions: every register but STATUS and CTRL is a function of the data
registers, which no transaction changes. -/
theorem hostCannotDisturbABusyBlock : Obligations.HostCannotDisturbABusyBlock := by
  unfold Obligations.HostCannotDisturbABusyBlock
  intro s op ts rest hp hi
  obtain ⟨t, hreach, hpt, hdata, hw, hrest⟩ := reaches_of_host_events ts hp hi
  exact ⟨t, hreach, hpt, hdata, hw, hrest, fun a hs hc => readReg_of_sameData hdata hs hc⟩

/-- Settles O45: the edge is the transaction, which does not disturb the engine, and then the completion, which leaves the
read data and WERR alone. -/
theorem sameEdgeHostGoesFirst : Obligations.SameEdgeHostGoesFirst := by
  unfold Obligations.SameEdgeHostGoesFirst
  intro lat c op x hp hdue
  have hpnext : (c.state.next c.state.inputs).pending ≠ none := by simp [hp]
  obtain ⟨u, hx, hu⟩ := hostTransaction_undisturbed x hpnext
  obtain ⟨v, hv⟩ := exec_next (instrOf op) u
  obtain ⟨v', hv'⟩ := exec_next (instrOf op) c.state
  have hdata : SameData u c.state := hu.data.trans (by simp [SameData])
  obtain ⟨hpend, hdone⟩ := exec_instrOf_ends hv
  refine ⟨_, v', clockEdge_due hdue hx (hu.pending.trans hp) hv, hv', exec_sameData hdata hv hv', hpend, hdone,
    ?read, ?write⟩
  case read =>
    intro hr
    have hout : u = (c.state.next c.state.inputs).putRdata (regRead x.addr (c.state.next c.state.inputs)) := by
      simpa [hostTransaction, hr] using hx.symm
    simp [exec_rdata hv, hout]
  case write =>
    intro hr hw
    have hout : u = (c.state.next c.state.inputs).raise .writeWhileBusy := by
      simpa [hostTransaction, hr, regWrite_busy hpnext, writeBusy_wblk hw] using hx.symm
    obtain ⟨-, hwerr, -⟩ := exec_sameControl hv
    simp [hwerr, hout]

/-- Settles O23: outside WBLK no register has an operand mask. -/
theorem reservedAndReadOnlyWritesAreIgnored : Obligations.ReservedAndReadOnlyWritesAreIgnored := by
  unfold Obligations.ReservedAndReadOnlyWritesAreIgnored
  intro s a d rest hi hw hs hc
  exact (step_write hi).trans (regWrite_ignored hw hs hc d _)

/-- Settles O29: the BUSY test comes before the command is looked at. -/
theorem busyWriteSetsWerrOnly : Obligations.BusyWriteSetsWerrOnly := by
  unfold Obligations.BusyWriteSetsWerrOnly
  intro s op a d rest hp hi hw
  have hpnext : (s.next rest).pending ≠ none := by simp [hp]
  rw [step_write hi, regWrite_busy hpnext, writeBusy_wblk hw]
  rfl

/-- Settles O31, over the 64 word addresses. -/
theorem wblkIsCmdAndTheOperands : Obligations.WblkIsCmdAndTheOperands := by
  unfold Obligations.WblkIsCmdAndTheOperands
  decide

end Sys2Proof.Machine
end

section
/-! PROOFS. Accesses at absolute addresses (20_memory.md R40, R44; log 10). -/

namespace Sys2Proof

theorem HostAccess.wf_iff (base : Nat) (a : HostAccess) :
    a.wf base = true ↔ (base ≤ a.addr ∧ a.addr < base + 256) ∧ (a.addr - base) % 4 = 0 ∧ a.bytes = 4 := by
  simp [HostAccess.wf, HostAccess.inWindow, HostAccess.aligned, HostAccess.wide, and_assoc]

namespace Machine

theorem txnOfAccess_eq_none_iff (base : Nat) (a : HostAccess) : txnOfAccess base a = none ↔ ¬ a.wf base = true := by
  simp [txnOfAccess]

theorem txnOfAccess_eq_some_iff (base : Nat) (a : HostAccess) (t : Txn) :
    txnOfAccess base a = some t ↔
      a.wf base = true ∧ (⟨a.wr, BitVec.ofNat 6 ((a.addr - base) / 4), a.wdata⟩ : Txn) = t := by
  simp [txnOfAccess]

/-- The word address of a whole aligned word of the window stands for the word's own byte offset (R44). -/
theorem byteOffset_ofNat {off : Nat} (hlt : off < 256) (h4 : off % 4 = 0) : byteOffset (BitVec.ofNat 6 (off / 4)) = off := by
  have hidx : off / 4 < 2 ^ 6 := by omega
  rw [byteOffset, BitVec.toNat_ofNat, Nat.mod_eq_of_lt hidx]
  omega

/-- Settles O48, from the four conditions on a well-formed access. -/
theorem onlyAlignedWordsReachTheBlock : Obligations.OnlyAlignedWordsReachTheBlock := by
  unfold Obligations.OnlyAlignedWordsReachTheBlock
  constructor
  · intro base a
    rw [txnOfAccess_eq_none_iff, HostAccess.wf_iff]
    omega
  · intro base a t h
    obtain ⟨hwf, rfl⟩ := (txnOfAccess_eq_some_iff base a t).1 h
    obtain ⟨⟨hbase, hlt⟩, halign, -⟩ := (HostAccess.wf_iff base a).1 hwf
    refine ⟨rfl, rfl, ?_⟩
    rw [byteOffset_ofNat (by omega) halign]
    omega

end Machine
end Sys2Proof
end

section
/-! PROOFS. Command words and transaction groups as bit strings (30_encoding.md R60 to R65): the decoder's two refusals
and the format's fields, each placed by its weight in the word. -/

namespace Sys2Proof

/-- In a concatenation the left string stands above the right one. -/
theorem toNat_append_eq_add {m n : Nat} (x : BitVec m) (y : BitVec n) :
    (x ++ y).toNat = x.toNat * 2 ^ n + y.toNat := by
  rw [BitVec.toNat_append, ← Nat.shiftLeft_add_eq_or_of_lt y.isLt, Nat.shiftLeft_eq]

/-! The refusals. -/

/-- The reserved field is what a word holds from 256 on. -/
theorem rsvField_ne_zero_iff (c : Word) : rsvField c ≠ 0 ↔ 256 ≤ c.toNat := by
  have hsum : c.toNat = (rsvField c).toNat * 2 ^ 8 + (opField c).toNat := by
    rw [← toNat_append_eq_add, rsvField_append_opField]
  have hop : (opField c).toNat < 2 ^ 8 := (opField c).isLt
  have hzero : rsvField c = 0 ↔ (rsvField c).toNat = 0 := BitVec.toNat_eq
  rw [ne_eq, hzero]
  omega

/-- The reserved bits are tested before the opcode (R62). -/
theorem decodeWord_eq_reservedBits_iff (c : Word) : decodeWord c = .error .reservedBits ↔ 256 ≤ c.toNat := by
  rw [← rsvField_ne_zero_iff, decodeWord]
  constructor
  · intro h
    split_ifs at h with hrsv
    · exact hrsv
    · cases h
  · exact fun hrsv => if_pos hrsv

/-- The other refusal is left for the words that are no command and have no reserved bit set. -/
theorem decodeWord_eq_unassignedOpcode_iff (c : Word) :
    decodeWord c = .error .unassignedOpcode ↔ 5 ≤ c.toNat ∧ c.toNat < 256 := by
  have hrsv := decodeWord_eq_reservedBits_iff c
  cases hd : decodeWord c with
  | ok i =>
    have hle : c.toNat ≤ 4 := (exists_eq_encode_iff c).1 ⟨i, (decodeWord_eq_ok_iff c i).1 hd⟩
    exact iff_of_false (by simp) (by omega)
  | error e =>
    have hge : 5 ≤ c.toNat := five_le_of_decodeWord_error hd
    cases e with
    | reservedBits =>
      have hbig : 256 ≤ c.toNat := hrsv.1 hd
      exact iff_of_false (by simp) (by omega)
    | unassignedOpcode =>
      have hsmall : ¬ 256 ≤ c.toNat := fun h => by simp [hrsv.2 h] at hd
      exact iff_of_true rfl ⟨hge, by omega⟩

/-- Settles O1, from the numbers at which the decoder's two refusals begin. -/
theorem commandWordsDecodeExactly : Obligations.CommandWordsDecodeExactly := by
  unfold Obligations.CommandWordsDecodeExactly
  exact ⟨decodeWord_eq_ok_iff, decodeWord_eq_reservedBits_iff, decodeWord_eq_unassignedOpcode_iff⟩

/-! Rows of the opcode table. -/

/-- The 32 bits of a table row are decoded as they stand (log 11). -/
theorem decodeTableWord_toNat (c : Word) : decodeTableWord 32 c.toNat = (decodeWord c).toOption := by
  have hc : BitVec.ofNat 32 (c.toNat % 2 ^ 32) = c := by
    rw [Nat.mod_eq_of_lt c.isLt, BitVec.ofNat_toNat, BitVec.setWidth_eq]
  rw [decodeTableWord, if_pos (le_refl 32), hc]
  cases decodeWord c <;> rfl

/-- Settles O2, each word by the decoder's equivalence for its outcome. -/
theorem opcodeMapWords : Obligations.OpcodeMapWords := by
  unfold Obligations.OpcodeMapWords
  have hphase2 : decodeWord 0x00000003 = .ok .phase2 := (decodeWord_eq_ok_iff _ _).2 rfl
  have hreserved : decodeWord 0x80000003 = .error .reservedBits := (decodeWord_eq_reservedBits_iff _).2 (by decide)
  refine ⟨(decodeWord_eq_ok_iff _ _).2 rfl, (decodeWord_eq_ok_iff _ _).2 rfl, (decodeWord_eq_ok_iff _ _).2 rfl, hphase2,
    (decodeWord_eq_ok_iff _ _).2 rfl, (decodeWord_eq_unassignedOpcode_iff _).2 (by decide),
    (decodeWord_eq_reservedBits_iff _).2 (by decide), ?_, ?_⟩
  · exact (decodeTableWord_toNat 0x00000003).trans (congrArg Except.toOption hphase2)
  · exact (decodeTableWord_toNat 0x80000003).trans (congrArg Except.toOption hreserved)

/-! Transaction groups (R65). -/

theorem toNat_encodeTxn (t : Txn) :
    (encodeTxn t).toNat = (if t.wr then 2 ^ 38 else 0) + t.addr.toNat * 2 ^ 32 + t.wdata.toNat := by
  rw [encodeTxn, toNat_append_eq_add, toNat_append_eq_add, BitVec.toNat_ofBool]
  cases t.wr with
  | true => rw [Bool.toNat_true, if_pos rfl]; omega
  | false => rw [Bool.toNat_false, if_neg Bool.false_ne_true]; omega

/-- One bit as a field of width 1. -/
theorem ofBool_getLsbD {n : Nat} (x : BitVec n) (i : Nat) : BitVec.ofBool (x.getLsbD i) = x.extractLsb' i 1 := by
  apply BitVec.eq_of_getLsbD_eq
  intro j hj
  obtain rfl : j = 0 := by omega
  simp

theorem encodeTxn_decodeTxn (g : BitVec 39) : encodeTxn (decodeTxn g) = g := by
  have hhigh : g.extractLsb' 38 1 ++ g.extractLsb' 32 6 = g.extractLsb' 32 7 :=
    BitVec.extractLsb'_append_extractLsb'_eq_extractLsb' rfl
  have hall : g.extractLsb' 32 7 ++ g.extractLsb' 0 32 = g.extractLsb' 0 39 :=
    BitVec.extractLsb'_append_extractLsb'_eq_extractLsb' rfl
  rw [encodeTxn, decodeTxn, ofBool_getLsbD, hhigh, hall, BitVec.extractLsb'_eq_self]

theorem decodeTxn_encodeTxn (t : Txn) : decodeTxn (encodeTxn t) = t := by
  have hhigh : (encodeTxn t).extractLsb' 32 7 = BitVec.ofBool t.wr ++ t.addr := BitVec.extractLsb'_append_eq_left
  have hwr : (encodeTxn t).getLsbD 38 = t.wr := by
    have hfield : (encodeTxn t).extractLsb' 38 1 = BitVec.ofBool t.wr := by
      rw [← Machine.extractLsb'_extractLsb' 32 7 (i := 6) _ (by decide), hhigh]
      exact BitVec.extractLsb'_append_eq_left
    rwa [← ofBool_getLsbD, BitVec.ofBool_eq_iff_eq] at hfield
  have haddr : (encodeTxn t).extractLsb' 32 6 = t.addr := by
    rw [← Machine.extractLsb'_extractLsb' 32 7 (i := 0) _ (by decide), hhigh]
    exact BitVec.extractLsb'_append_eq_right
  have hwdata : (encodeTxn t).extractLsb' 0 32 = t.wdata := BitVec.extractLsb'_append_eq_right
  rw [decodeTxn, hwr, haddr, hwdata]

/-- Settles O3: each field read back from its place, the fields put together again, and their weights. -/
theorem transactionGroupRoundTrip : Obligations.TransactionGroupRoundTrip := by
  unfold Obligations.TransactionGroupRoundTrip
  exact ⟨decodeTxn_encodeTxn, encodeTxn_decodeTxn, toNat_encodeTxn⟩

end Sys2Proof
end

section
/-! PROOFS. The load lines of a host program (30_encoding.md R67): a list of operand writes on an idle block, and what the
writes of LDTK, LDTA and LDP1K leave in their array. -/

namespace Sys2Proof.Machine

/-! Lists of operand writes, each a register and its word. -/

/-- The bus events of operand writes. -/
def operandWriteEvents (ws : List (Reg × Word)) : List Event := ws.map fun w => busWrite (addrOf w.1) w.2

/-- The state after operand writes, in their order. -/
def writeOperands (ws : List (Reg × Word)) (s : State) : State := ws.foldl (fun t w => writeOperand w.1 w.2 t) s

theorem writeOperands_cons (w : Reg × Word) (ws : List (Reg × Word)) (s : State) :
    writeOperands (w :: ws) s = writeOperands ws (writeOperand w.1 w.2 s) := rfl

/-- An operand write does not look at the events to come nor at the read data. -/
theorem writeOperand_next (r : Reg) (d : Word) (rest : List Event) (s : State) :
    writeOperand r d (s.next rest) = (writeOperand r d s).next rest := by
  cases r <;> rfl

theorem writeOperands_next (ws : List (Reg × Word)) (rest : List Event) (s : State) :
    writeOperands ws (s.next rest) = (writeOperands ws s).next rest := by
  induction ws generalizing s with
  | nil => rfl
  | cons w ws ih => rw [writeOperands_cons, writeOperand_next, ih, writeOperands_cons]

/-- An operand write on an idle block, as a step. -/
theorem step_operandWrite {s : State} {r : Reg} {d : Word} {rest : List Event} (hp : s.pending = none)
    (hr : operandMask r ≠ 0) (hi : s.inputs = busWrite (addrOf r) d :: rest) :
    step s = .next ((writeOperand r d s).next rest) := by
  rw [← regAt_addrOf r] at hr
  rw [step_write hi, regWrite_operand (by simpa using hp) hr, regAt_addrOf, writeOperand_next]

/-- Operand writes on an idle block take effect one after another, a step each. The list is not empty, because only a
step clears the read data. -/
theorem reaches_writeOperands {s : State} {ws : List (Reg × Word)} {rest : List Event} (hne : ws ≠ [])
    (hp : s.pending = none) (hr : ∀ w ∈ ws, operandMask w.1 ≠ 0) (hi : s.inputs = operandWriteEvents ws ++ rest) :
    Reaches ws.length s ((writeOperands ws s).next rest) := by
  induction ws generalizing s with
  | nil => exact absurd rfl hne
  | cons w ws ih =>
    refine ⟨_, step_operandWrite hp (hr w (.head ws)) hi, ?_⟩
    rcases eq_or_ne ws [] with rfl | hne'
    · rfl
    · have hrest := ih (s := (writeOperand w.1 w.2 s).next (operandWriteEvents ws ++ rest)) hne' (by simpa using hp)
        (fun v hv => hr v (.tail w hv)) rfl
      rwa [writeOperands_next] at hrest

/-! What the loads leave in their array. -/

/-- A 16-byte array is its four register words. -/
theorem eq_of_arrayWord_eq {a b : Vector Byte 16} (h : ∀ n, arrayWord a n = arrayWord b n) : a = b := by
  ext1 i hi
  have hlane : lane (arrayWord a ⟨i / 4, by omega⟩) (i % 4) = lane (arrayWord b ⟨i / 4, by omega⟩) (i % 4) := by rw [h]
  have hbyte (x : Vector Byte 16) : lane (arrayWord x ⟨i / 4, by omega⟩) (i % 4) = x[i] := by
    rw [lane_arrayWord x ⟨i / 4, by omega⟩ ⟨i % 4, by omega⟩]
    simp only [Nat.div_add_mod]
  rwa [hbyte, hbyte] at hlane

/-- Replacing all four register words of a 16-byte array replaces the array. -/
theorem setArrayWord_all (a b : Vector Byte 16) :
    setArrayWord (setArrayWord (setArrayWord (setArrayWord a 0 (arrayWord b 0)) 1 (arrayWord b 1)) 2 (arrayWord b 2)) 3
      (arrayWord b 3) = b := by
  apply eq_of_arrayWord_eq
  intro n
  match n with
  | 0 => simp [arrayWord_setArrayWord_same, arrayWord_setArrayWord_of_ne]
  | 1 => simp [arrayWord_setArrayWord_same, arrayWord_setArrayWord_of_ne]
  | 2 => simp [arrayWord_setArrayWord_same, arrayWord_setArrayWord_of_ne]
  | 3 => exact arrayWord_setArrayWord_same _ 3 _

/-- The lanes of a packed word are its bytes (R42). -/
theorem lanes_packBytes (b0 b1 b2 b3 : Byte) :
    lane (packBytes b0 b1 b2 b3) 0 = b0 ∧ lane (packBytes b0 b1 b2 b3) 1 = b1 ∧ lane (packBytes b0 b1 b2 b3) 2 = b2 ∧
      lane (packBytes b0 b1 b2 b3) 3 = b3 :=
  have h := lane_packBytes b0 b1 b2 b3
  ⟨h 0, h 1, h 2, h 3⟩

/-- The four writes of LDTK (R67). -/
def ldtkWrites (b : Vector Byte 16) : List (Reg × Word) := [0, 1, 2, 3].map fun n => (.tk n, arrayWord b n)

/-- The two writes of LDTA (R67). -/
def ldtaWrites (b : Vector Byte 6) : List (Reg × Word) :=
  [(.ta0, packBytes b[0] b[1] b[2] b[3]), (.ta1, packBytes b[4] b[5] 0 0)]

/-- The three writes of LDP1K (R67). -/
def ldp1kWrites (b : Vector Half 5) : List (Reg × Word) :=
  [(.p1k0, packHalves b[0] b[1]), (.p1k1, packHalves b[2] b[3]), (.p1k2, packHalves b[4] 0)]

theorem lineEvents_ldtk (b : Vector Byte 16) : lineEvents (.ldtk b) = operandWriteEvents (ldtkWrites b) := rfl

theorem lineEvents_ldta (b : Vector Byte 6) : lineEvents (.ldta b) = operandWriteEvents (ldtaWrites b) := rfl

theorem lineEvents_ldp1k (b : Vector Half 5) : lineEvents (.ldp1k b) = operandWriteEvents (ldp1kWrites b) := rfl

theorem writeOperands_ldtkWrites (b : Vector Byte 16) (s : State) :
    writeOperands (ldtkWrites b) s = { s with tk := b } := by
  simp only [writeOperands, ldtkWrites, List.map, List.foldl, writeOperand, setArrayWord_all]

theorem writeOperands_ldtaWrites (b : Vector Byte 6) (s : State) :
    writeOperands (ldtaWrites b) s = { s with ta := b } := by
  simp only [writeOperands, ldtaWrites, List.foldl, writeOperand]
  congr 1
  ext1 i hi
  interval_cases i <;> simp [lanes_packBytes]

theorem writeOperands_ldp1kWrites (b : Vector Half 5) (s : State) :
    writeOperands (ldp1kWrites b) s = { s with p1k := b } := by
  simp only [writeOperands, ldp1kWrites, List.foldl, writeOperand, lo16_packHalves, hi16_packHalves]
  congr 1
  ext1 i hi
  interval_cases i <;> simp

/-- Settles O27: each load is a list of operand writes on an idle block, and their words fill its array. -/
theorem loadsPutTheOperands : Obligations.LoadsPutTheOperands := by
  unfold Obligations.LoadsPutTheOperands
  intro s rest hp
  refine ⟨fun b hi => ?_, fun b hi => ?_, fun b hi => ?_⟩
  · rw [lineEvents_ldtk] at hi
    have h := reaches_writeOperands (by simp [ldtkWrites]) hp (by simp [ldtkWrites, operandMask]) hi
    rwa [writeOperands_ldtkWrites] at h
  · rw [lineEvents_ldta] at hi
    have h := reaches_writeOperands (by simp [ldtaWrites]) hp (by simp [ldtaWrites, operandMask]) hi
    rwa [writeOperands_ldtaWrites] at h
  · rw [lineEvents_ldp1k] at hi
    have h := reaches_writeOperands (by simp [ldp1kWrites]) hp (by simp [ldp1kWrites, operandMask]) hi
    rwa [writeOperands_ldp1kWrites] at h

end Sys2Proof.Machine
end

section
/-! PROOFS. The S-box (40_sbox.md): the relation of R73 between the two tables and the multiplication by 2 in GF(2^8),
and what follows for `S`. Four facts about the ROM's contents are evaluated, each over the 256 entries of a table; the
rest is linear algebra over the two bytes of a word. -/

namespace Sys2Proof.Machine

/-! The bytes of a XOR. -/

theorem lo8_xor (v w : Half) : lo8 (v ^^^ w) = lo8 v ^^^ lo8 w := BitVec.extractLsb'_xor

theorem hi8_xor (v w : Half) : hi8 (v ^^^ w) = hi8 v ^^^ hi8 w := BitVec.extractLsb'_xor

theorem make16_xor (h l h' l' : Byte) : make16 (h ^^^ h') (l ^^^ l') = make16 h l ^^^ make16 h' l' := by
  rw [make16_eq_append, make16_eq_append, make16_eq_append]
  exact BitVec.xor_append.symm

theorem eq_of_bytes_eq {v w : Half} (hhi : hi8 v = hi8 w) (hlo : lo8 v = lo8 w) : v = w := by
  rw [← make16_hi8_lo8 v, hhi, hlo, make16_hi8_lo8]

/-- A word with its two bytes swapped (`byteswap` of R73). -/
def byteSwap (v : Half) : Half := make16 (lo8 v) (hi8 v)

@[simp] theorem lo8_byteSwap (v : Half) : lo8 (byteSwap v) = hi8 v := lo8_make16 _ _

@[simp] theorem hi8_byteSwap (v : Half) : hi8 (byteSwap v) = lo8 v := hi8_make16 _ _

@[simp] theorem byteSwap_make16 (h l : Byte) : byteSwap (make16 h l) = make16 l h := by
  rw [byteSwap, lo8_make16, hi8_make16]

@[simp] theorem byteSwap_byteSwap (v : Half) : byteSwap (byteSwap v) = v :=
  eq_of_bytes_eq (by simp) (by simp)

theorem byteSwap_xor (v w : Half) : byteSwap (v ^^^ w) = byteSwap v ^^^ byteSwap w := by
  simp only [byteSwap, lo8_xor, hi8_xor, make16_xor]

/-- The XOR of the two bytes of a word. -/
def foldBytes (v : Half) : Byte := hi8 v ^^^ lo8 v

theorem foldBytes_xor (v w : Half) : foldBytes (v ^^^ w) = foldBytes v ^^^ foldBytes w := by
  simp only [foldBytes, hi8_xor, lo8_xor]
  ac_rfl

@[simp] theorem foldBytes_byteSwap (v : Half) : foldBytes (byteSwap v) = foldBytes v := by
  rw [foldBytes, hi8_byteSwap, lo8_byteSwap, BitVec.xor_comm, foldBytes]

/-- Multiplication by 2 in GF(2^8) with the AES polynomial (`xt` of R73). -/
def xtime (a : Byte) : Byte := if a.msb then a <<< 1 ^^^ 0x1B else a <<< 1

/-- Multiplication distributes over the field's addition: the polynomial is subtracted once for each high bit, and twice
cancels. -/
theorem xtime_xor (a b : Byte) : xtime (a ^^^ b) = xtime a ^^^ xtime b := by
  simp only [xtime, BitVec.msb_xor, BitVec.shiftLeft_xor_distrib]
  cases a.msb with
  | false =>
    cases b.msb with
    | false => rfl
    | true => exact BitVec.xor_assoc _ _ _
  | true =>
    cases b.msb with
    | false => simp only [Bool.xor_false, if_true, Bool.false_eq_true, if_false]; ac_rfl
    | true =>
      calc a <<< 1 ^^^ b <<< 1 = a <<< 1 ^^^ b <<< 1 ^^^ (0x1B ^^^ 0x1B) := by rw [BitVec.xor_self, BitVec.xor_zero]
        _ = a <<< 1 ^^^ 0x1B ^^^ (b <<< 1 ^^^ 0x1B) := by ac_rfl

/-! The two tables. -/

theorem sbox0Table_length : sbox0Table.length = 256 := by decide +kernel

theorem sbox0Table_nodup : sbox0Table.Nodup := by decide +kernel

theorem sbox1Table_eq_map_byteSwap : sbox1Table = sbox0Table.map byteSwap := by decide +kernel

theorem sbox0Table_all_hi8 : sbox0Table.all (fun e => hi8 e == xtime (foldBytes e)) := by decide +kernel

/-- With `2A` and `3A` as its bytes, an entry has `A` as their XOR. -/
theorem hi8_of_mem_sbox0Table {e : Half} (he : e ∈ sbox0Table) : hi8 e = xtime (foldBytes e) :=
  eq_of_beq (List.all_eq_true.mp sbox0Table_all_hi8 e he)

/-- Every index is in range (20_memory.md R54). -/
theorem toNat_lt_sbox0Table_length (b : Byte) : b.toNat < sbox0Table.length := by
  rw [sbox0Table_length]
  exact b.isLt

theorem sbox0_eq_getElem (b : Byte) : sbox0 b = sbox0Table[b.toNat]'(toNat_lt_sbox0Table_length b) :=
  List.getD_eq_getElem _ _ _

theorem sbox0_injective : Function.Injective sbox0 := fun b c h => by
  rw [sbox0_eq_getElem, sbox0_eq_getElem, sbox0Table_nodup.getElem_inj_iff] at h
  exact BitVec.eq_of_toNat_eq h

/-- SBOX1 is SBOX0 with the bytes of each entry swapped (R73). -/
theorem sbox1_eq_byteSwap (b : Byte) : sbox1 b = byteSwap (sbox0 b) := by
  rw [sbox1, sbox1Table_eq_map_byteSwap]
  exact List.getD_map sbox0Table 0 byteSwap

/-- The AES S-box byte from which the entries at an index are built (`A` of R73): `2A XOR 3A`. -/
def aesByte (b : Byte) : Byte := foldBytes (sbox0 b)

@[simp] theorem hi8_sbox0 (b : Byte) : hi8 (sbox0 b) = xtime (aesByte b) :=
  hi8_of_mem_sbox0Table (sbox0_eq_getElem b ▸ List.getElem_mem _)

@[simp] theorem lo8_sbox0 (b : Byte) : lo8 (sbox0 b) = xtime (aesByte b) ^^^ aesByte b := by
  rw [← hi8_sbox0, aesByte, foldBytes, ← BitVec.xor_assoc, BitVec.xor_self, BitVec.zero_xor]

/-- The AES S-box byte determines the entry. -/
theorem aesByte_injective : Function.Injective aesByte := fun b c h =>
  sbox0_injective (eq_of_bytes_eq (by rw [hi8_sbox0, hi8_sbox0, h]) (by rw [lo8_sbox0, lo8_sbox0, h]))

/-! The lookup. -/

theorem sboxLookup_make16 (h l : Byte) : sboxLookup (make16 h l) = sbox0 l ^^^ byteSwap (sbox0 h) := by
  rw [sboxLookup, lo8_make16, hi8_make16, sbox1_eq_byteSwap]

theorem sboxLookup_byteSwap (v : Half) : sboxLookup (byteSwap v) = byteSwap (sboxLookup v) := by
  rw [← make16_hi8_lo8 v, byteSwap_make16, sboxLookup_make16, sboxLookup_make16, byteSwap_xor, byteSwap_byteSwap,
    BitVec.xor_comm]

/-- With `x` and `y` the AES S-box bytes of the low and the high input byte, the low output byte is `3x XOR 2y`. -/
theorem lo8_sboxLookup (v : Half) :
    lo8 (sboxLookup v) = xtime (aesByte (lo8 v)) ^^^ aesByte (lo8 v) ^^^ xtime (aesByte (hi8 v)) := by
  rw [sboxLookup, sbox1_eq_byteSwap, lo8_xor, lo8_byteSwap, lo8_sbox0, hi8_sbox0]

/-- The factors 2 and 3 add up to 1, so the XOR of the two output bytes is `x XOR y`. -/
theorem foldBytes_sboxLookup (v : Half) : foldBytes (sboxLookup v) = aesByte (lo8 v) ^^^ aesByte (hi8 v) := by
  rw [sboxLookup, sbox1_eq_byteSwap, foldBytes_xor, foldBytes_byteSwap, aesByte, aesByte]

/-- The output gives back the AES S-box byte of the low input byte: `(3x XOR 2y) XOR 2(x XOR y) = x`. -/
theorem aesByte_lo8_eq (v : Half) : aesByte (lo8 v) = lo8 (sboxLookup v) ^^^ xtime (foldBytes (sboxLookup v)) := by
  rw [lo8_sboxLookup, foldBytes_sboxLookup, xtime_xor]
  generalize aesByte (lo8 v) = x
  generalize aesByte (hi8 v) = y
  calc x = xtime x ^^^ xtime x ^^^ x ^^^ (xtime y ^^^ xtime y) := by
        simp only [BitVec.xor_self, BitVec.zero_xor, BitVec.xor_zero]
    _ = xtime x ^^^ x ^^^ xtime y ^^^ (xtime x ^^^ xtime y) := by ac_rfl

/-- And so, by the symmetry, that of the high one. -/
theorem aesByte_hi8_eq (v : Half) : aesByte (hi8 v) = hi8 (sboxLookup v) ^^^ xtime (foldBytes (sboxLookup v)) := by
  have h := aesByte_lo8_eq (byteSwap v)
  rwa [sboxLookup_byteSwap, lo8_byteSwap, lo8_byteSwap, foldBytes_byteSwap] at h

theorem sboxLookup_injective : Function.Injective sboxLookup := fun v w h => by
  have hlo : lo8 v = lo8 w := aesByte_injective (by rw [aesByte_lo8_eq, aesByte_lo8_eq, h])
  have hhi : hi8 v = hi8 w := aesByte_injective (by rw [aesByte_hi8_eq, aesByte_hi8_eq, h])
  exact eq_of_bytes_eq hhi hlo

/-! The statements. -/

/-- Settles O15: swapping the input bytes exchanges the two tables, and SBOX1 is SBOX0 with its bytes swapped. -/
theorem sboxByteSwapSymmetry : Obligations.SboxByteSwapSymmetry := by
  unfold Obligations.SboxByteSwapSymmetry
  intro h l
  rw [← byteSwap_make16 h l]
  exact sboxLookup_byteSwap (make16 h l)

/-- Settles O16: the output determines the AES S-box byte of each input byte, hence the input; on a finite set that is
enough. -/
theorem sboxIsABijection : Obligations.SboxIsABijection := by
  unfold Obligations.SboxIsABijection
  exact Finite.injective_iff_bijective.mp sboxLookup_injective

/-- What the SBOX command does, in every state (R75). -/
theorem exec_sbox (s : State) : exec .sbox s = .next { s with sboxOut := sboxLookup s.sboxIn }.finish := rfl

/-- Settles O8, from the definition of the lookup and the effect of the command. -/
theorem sboxResultAndFrame : Obligations.SboxResultAndFrame := by
  unfold Obligations.SboxResultAndFrame
  exact ⟨fun _ => rfl, fun s => exec_sbox s⟩

end Sys2Proof.Machine
end

section
/-! PROOFS. The Phase-1 mixer (41_phase1.md): what one round does to the five words, the buffers between the rounds, and
on what a command's result depends (R75, R86, R95). -/

namespace Sys2Proof.Machine

/-! What the PHASE1 and the PHASE2 command do, in every state (R85; 42_phase2.md R95). -/

theorem exec_phase1 (s : State) :
    exec .phase1 s = .next { s with p1k := phase1 s.tk s.ta s.iv32 }.leaveBuffer.finish := rfl

theorem exec_phase2 (s : State) :
    exec .phase2 s = .next { s with rc4key := phase2 s.tk s.p1k s.iv16 }.leaveBuffer.finish := rfl

/-- The end of a mixer command leaves all but `pending`, DONE and the unspecified working buffer as they are. -/
theorem State.finish_leaveBuffer_frame (s : State) :
    s.leaveBuffer.finish = { s with
      pending := none, done := true, w := s.leaveBuffer.finish.w, freeCount := s.leaveBuffer.finish.freeCount } := rfl

/-! One round. -/

/-- The key schedule: even rounds use the word `m` of the Temporal Key, odd rounds the word after it (R83, R88). -/
theorem tk16_roundKey (tk : Vector Byte 16) (i : Fin 8) (m : Fin 7) :
    tk16 tk (roundKey i m) = if i.val % 2 = 0 then tk16 tk m.castSucc else tk16 tk m.succ := by
  split
  next heven => exact congrArg (tk16 tk) (Fin.ext (by simp [roundKey, heven]))
  next hodd => exact congrArg (tk16 tk) (Fin.ext (by simp [roundKey]; omega))

/-- An update writes its target word alone (R83). -/
theorem getElem_phase1Mix (S : Half → Half) (key : Half) (target source : Fin 5) (w : Vector Half 5) {k : Nat}
    (hk : k < 5) :
    (phase1Mix S key target source w)[k] = if target.val = k then w[k] + S (w[source] ^^^ key) else w[k] := by
  unfold phase1Mix add16
  rw [Vector.getElem_set]
  split
  next htarget => subst htarget; rfl
  next => rfl

/-- The words after a round: each but the first is made from the word before it as the same round has already written it;
the sixth update adds the round index to the last word (R83). -/
theorem phase1Round_words {S : Half → Half} {tk : Vector Byte 16} {w w' : Vector Half 5} {i : Fin 8}
    (h : phase1Round S tk w i = w') :
    w'[0] = w[0] + S (w[4] ^^^ tk16 tk (roundKey i 0)) ∧
    w'[1] = w[1] + S (w'[0] ^^^ tk16 tk (roundKey i 2)) ∧
    w'[2] = w[2] + S (w'[1] ^^^ tk16 tk (roundKey i 4)) ∧
    w'[3] = w[3] + S (w'[2] ^^^ tk16 tk (roundKey i 6)) ∧
    w'[4] = w[4] + S (w'[3] ^^^ tk16 tk (roundKey i 0)) + BitVec.ofNat 16 i.val := by
  subst h
  unfold phase1Round add16
  refine ⟨?_, ?_, ?_, ?_, ?_⟩ <;> simp [getElem_phase1Mix]

/-! Eight rounds. -/

/-- The buffer `W[0..4]` before round `i`: the initial one, then one round after the other (R81, R84). -/
def phase1Buffer (S : Half → Half) (tk : Vector Byte 16) (ta : Vector Byte 6) (iv32 : Word) : Nat → Vector Half 5
  | 0 => phase1Init ta iv32
  | i + 1 => phase1Round S tk (phase1Buffer S tk ta iv32 i) (Fin.ofNat 8 i)

theorem phase1Buffer_succ (S : Half → Half) (tk : Vector Byte 16) (ta : Vector Byte 6) (iv32 : Word) (i : Fin 8) :
    phase1Round S tk (phase1Buffer S tk ta iv32 i) i = phase1Buffer S tk ta iv32 (i + 1) := by
  rw [phase1Buffer, Fin.ofNat_val_eq_self]

/-- The mixer's fold is the buffer after round 7. -/
theorem phase1_eq_phase1Buffer (tk : Vector Byte 16) (ta : Vector Byte 6) (iv32 : Word) :
    phase1 tk ta iv32 = phase1Buffer sboxLookup tk ta iv32 8 := rfl

/-- The initial words: the halves of IV32 and the three byte pairs of TA, the odd byte in the high bits (R81). -/
theorem phase1Init_words (ta : Vector Byte 6) (iv32 : Word) :
    (phase1Init ta iv32)[0] = iv32.extractLsb' 0 16 ∧ (phase1Init ta iv32)[1] = iv32.extractLsb' 16 16 ∧
    (phase1Init ta iv32)[2] = ta[1] ++ ta[0] ∧ (phase1Init ta iv32)[3] = ta[3] ++ ta[2] ∧
    (phase1Init ta iv32)[4] = ta[5] ++ ta[4] :=
  ⟨rfl, rfl, make16_eq_append ta[1] ta[0], make16_eq_append ta[3] ta[2], make16_eq_append ta[5] ta[4]⟩

/-! The statements. -/

/-- Settles O9: the nine buffers are those between the rounds, and a round's words are read off its six updates. -/
theorem phase1RunsTheEightRounds : Obligations.Phase1RunsTheEightRounds := by
  unfold Obligations.Phase1RunsTheEightRounds
  intro s
  obtain ⟨h0, h1, h2, h3, h4⟩ := phase1Init_words s.ta s.iv32
  refine ⟨phase1Buffer sboxLookup s.tk s.ta s.iv32, _, exec_phase1 s, h0, h1, h2, h3, h4, ?_, ?_⟩
  · intro i hi
    have hround := phase1Round_words (phase1Buffer_succ sboxLookup s.tk s.ta s.iv32 ⟨i, hi⟩)
    simp only [tk16_roundKey] at hround
    exact hround
  · rw [← phase1_eq_phase1Buffer]
    exact State.finish_leaveBuffer_frame _

/-- The operands and the result of the commands other than CLR are different registers, and CLR writes constants: so a
second run finds the operands, and leaves the results, of the first. -/
theorem exec_twice_sameData {i : Instr} {s s' s'' : State} (h : exec i s = .next s') (h' : exec i s' = .next s'') :
    SameData s' s'' := by
  cases i with
  | nop | sbox | phase1 | phase2 => cases h; cases h'; simp [SameData]
  | clr => cases h; cases h'; simp [SameData]

/-- Settles O12: each result is the command's function of its operand registers. -/
theorem resultsDependOnOperandsOnly : Obligations.ResultsDependOnOperandsOnly := by
  unfold Obligations.ResultsDependOnOperandsOnly
  refine ⟨?phase1, ?phase2, ?sbox, fun _ _ _ _ h h' => exec_twice_sameData h h'⟩
  case phase1 =>
    intro s t s' t' hs ht htk hta hiv32
    rw [exec_phase1] at hs ht
    cases hs; cases ht
    simp [htk, hta, hiv32]
  case phase2 =>
    intro s t s' t' hs ht htk hp1k hiv16
    rw [exec_phase2] at hs ht
    cases hs; cases ht
    simp [htk, hp1k, hiv16]
  case sbox =>
    intro s t s' t' hs ht hsboxIn
    rw [exec_sbox] at hs ht
    cases hs; cases ht
    simp [hsboxIn]

end Sys2Proof.Machine
end

section
/-! PROOFS. The Phase-2 mixer (42_phase2.md): both passes go once round the ring of six words with an update
`W[k] += f(k, word before k)`, and the assembly lays IV16 and the words out in the key (R91 to R96). -/

namespace Sys2Proof.Machine

/-! A pass round the ring of six words. -/

/-- One update: the word `k` gains what `f k` makes of the word before it (R92, R93). -/
def ringStep (f : Fin 6 → Half → Half) (w : Vector Half 6) (k : Fin 6) : Vector Half 6 :=
  w.set k (w[k] + f k (prevWord k w))

/-- The six updates, strictly in this order (R97). -/
def ringPass (f : Fin 6 → Half → Half) (w : Vector Half 6) : Vector Half 6 :=
  [0, 1, 2, 3, 4, 5].foldl (ringStep f) w

/-- An update writes its own word alone. -/
theorem getElem_ringStep (f : Fin 6 → Half → Half) (w : Vector Half 6) (k : Fin 6) {j : Nat} (hj : j < 6) :
    (ringStep f w k)[j] = if k.val = j then w[j] + f k (prevWord k w) else w[j] := by
  rw [ringStep, Vector.getElem_set]
  split
  next hk => subst hk; rfl
  next => rfl

/-- The words after a pass: the first is made from the last word as it was, each other one from the word before it as the
pass has already written it. -/
theorem ringPass_words {f : Fin 6 → Half → Half} {w w' : Vector Half 6} (h : ringPass f w = w') :
    w'[0] = w[0] + f 0 w[5] ∧ w'[1] = w[1] + f 1 w'[0] ∧ w'[2] = w[2] + f 2 w'[1] ∧
    w'[3] = w[3] + f 3 w'[2] ∧ w'[4] = w[4] + f 4 w'[3] ∧ w'[5] = w[5] + f 5 w'[4] := by
  subst h
  refine ⟨?_, ?_, ?_, ?_, ?_, ?_⟩ <;> simp [ringPass, getElem_ringStep, prevWord]

/-- What the non-linear pass adds to word `k`, from the word before it (R92). -/
def nonlinearAddend (S : Half → Half) (tk : Vector Byte 16) (k : Fin 6) (v : Half) : Half :=
  S (v ^^^ tk16 tk ⟨k.val, by omega⟩)

theorem nonlinearPass_eq_ringPass (S : Half → Half) (tk : Vector Byte 16) (w : Vector Half 6) :
    nonlinearPass S tk w = ringPass (nonlinearAddend S tk) w := rfl

/-- What the linear pass adds to word `k`, from the word before it: a rotation, with a key word in the first two updates
only (R93). -/
def linearAddend (tk : Vector Byte 16) (k : Fin 6) (v : Half) : Half :=
  match k with
  | 0 => (v ^^^ tk16 tk 6).rotateRight 1
  | 1 => (v ^^^ tk16 tk 7).rotateRight 1
  | _ => v.rotateRight 1

/-- The formula of R13 is the rotation of the bit-vector library. -/
theorem rotR1_eq_rotateRight (v : Half) : rotR1 v = v.rotateRight 1 := by
  apply BitVec.eq_of_getLsbD_eq
  intro i hi
  rw [BitVec.getLsbD_rotateRight]
  rcases Nat.lt_or_ge i 15 with hlow | htop
  · rw [getLsbD_rotR1_of_lt v hlow]
    simp [hlow, Nat.add_comm]
  · obtain rfl : i = 15 := by omega
    rw [getLsbD_rotR1_top v]
    simp

theorem linearStep_eq_ringStep (tk : Vector Byte 16) : linearStep tk = ringStep (linearAddend tk) := by
  funext w k
  rw [linearStep, rotR1_eq_rotateRight]
  fin_cases k <;> rfl

theorem linearPass_eq_ringPass (tk : Vector Byte 16) (w : Vector Half 6) :
    linearPass tk w = ringPass (linearAddend tk) w := by
  rw [linearPass, linearStep_eq_ringStep, ringPass]

/-! The assembly (R94). -/

/-- The low byte of a word shifted right by one is its bits 8 to 1. -/
theorem lo8_ushiftRight_one (v : Half) : lo8 (v >>> 1) = v.extractLsb' 1 8 := by
  apply BitVec.eq_of_getLsbD_eq
  intro i hi
  simp [lo8, BitVec.getLsbD_extractLsb', BitVec.getLsbD_ushiftRight]

/-- Bytes 4 to 15 are the six words, low byte first. -/
theorem assembleKey_words (w : Vector Half 6) (tk : Vector Byte 16) (iv16 : Half) (k : Fin 6) :
    (assembleKey w tk iv16)[4 + 2 * k.val] = lo8 w[k] ∧ (assembleKey w tk iv16)[5 + 2 * k.val] = hi8 w[k] := by
  fin_cases k <;> exact ⟨rfl, rfl⟩

/-! The three bytes of a PHASE2 result that depend on IV16 alone (R94). -/

theorem phase2_byte0 (tk : Vector Byte 16) (p1k : Vector Half 5) (iv16 : Half) :
    (phase2 tk p1k iv16)[0] = hi8 iv16 := rfl

theorem phase2_byte1 (tk : Vector Byte 16) (p1k : Vector Half 5) (iv16 : Half) :
    (phase2 tk p1k iv16)[1] = fmsByte (hi8 iv16) := rfl

theorem phase2_byte2 (tk : Vector Byte 16) (p1k : Vector Half 5) (iv16 : Half) :
    (phase2 tk p1k iv16)[2] = lo8 iv16 := rfl

/-- Bytes 0 and 2 carry IV16 itself (R96 c). -/
theorem phase2_iv16_injective (tk : Vector Byte 16) (p1k : Vector Half 5) : Function.Injective (phase2 tk p1k) := by
  intro iv iv' h
  apply eq_of_bytes_eq
  · rw [← phase2_byte0 tk p1k iv, h, phase2_byte0]
  · rw [← phase2_byte2 tk p1k iv, h, phase2_byte2]

/-- The key register after PHASE2. -/
theorem rc4key_of_exec_phase2 {s t : State} (h : exec .phase2 s = .next t) : t.rc4key = phase2 s.tk s.p1k s.iv16 := by
  rw [exec_phase2] at h
  cases h
  simp

/-- The key register after CLR. -/
theorem rc4key_of_exec_clr {s t : State} (h : exec .clr s = .next t) : t.rc4key = State.reset.rc4key := by
  cases h
  simp

/-! The weak-key-avoidance byte, bit by bit (R94, R96). -/

/-- Bit 7 is cleared, bit 5 is set, the others stay. -/
theorem getLsbD_fmsByte (b : Byte) {i : Nat} (hi : i < 8) :
    (fmsByte b).getLsbD i = (decide (i ≠ 7) && (decide (i = 5) || b.getLsbD i)) := by
  unfold fmsByte
  interval_cases i <;> simp

theorem and_0x80_eq_zero_iff (b : Byte) : b &&& 0x80 = 0 ↔ b.getLsbD 7 = false := by
  rw [show (0x80 : Byte) = BitVec.twoPow 8 7 from rfl, BitVec.and_twoPow]
  cases b.getLsbD 7 <;> decide

theorem and_0x20_ne_zero_iff (b : Byte) : b &&& 0x20 ≠ 0 ↔ b.getLsbD 5 = true := by
  rw [show (0x20 : Byte) = BitVec.twoPow 8 5 from rfl, BitVec.and_twoPow]
  cases b.getLsbD 5 <;> decide

theorem fmsByte_and_0x80 (b : Byte) : fmsByte b &&& 0x80 = 0 :=
  (and_0x80_eq_zero_iff _).2 (getLsbD_fmsByte b (by decide))

theorem fmsByte_and_0x20 (b : Byte) : fmsByte b &&& 0x20 ≠ 0 :=
  (and_0x20_ne_zero_iff _).2 (getLsbD_fmsByte b (by decide))

/-- A byte that has the two forced bits already is left as it is. -/
theorem fmsByte_of_forced_bits {b : Byte} (h7 : b &&& 0x80 = 0) (h5 : b &&& 0x20 ≠ 0) : fmsByte b = b := by
  rw [and_0x80_eq_zero_iff] at h7
  rw [and_0x20_ne_zero_iff] at h5
  apply BitVec.eq_of_getLsbD_eq
  intro i hi
  rw [getLsbD_fmsByte b hi]
  rcases eq_or_ne i 7 with rfl | hne7
  · rw [h7]; rfl
  · rcases eq_or_ne i 5 with rfl | hne5
    · rw [h5]; rfl
    · simp [hne7, hne5]

/-- Only the two forced bits can differ from the byte's own. -/
theorem fmsByte_xor_self_and (b : Byte) : (fmsByte b ^^^ b) &&& ~~~0xA0 = 0 := by
  apply BitVec.eq_of_getLsbD_eq
  intro i hi
  rw [BitVec.getLsbD_and, BitVec.getLsbD_xor, getLsbD_fmsByte b hi]
  interval_cases i <;> simp

/-! The statements. -/

/-- Settles O10: `U` and `V` are the buffers after the two passes, each read off its pass round the ring. -/
theorem phase2RunsTheTwoPasses : Obligations.Phase2RunsTheTwoPasses := by
  unfold Obligations.Phase2RunsTheTwoPasses
  intro s
  obtain ⟨hu0, hu1, hu2, hu3, hu4, hu5⟩ :=
    ringPass_words (nonlinearPass_eq_ringPass sboxLookup s.tk (phase2Load s.p1k s.iv16)).symm
  obtain ⟨hv0, hv1, hv2, hv3, hv4, hv5⟩ :=
    ringPass_words (linearPass_eq_ringPass s.tk (nonlinearPass sboxLookup s.tk (phase2Load s.p1k s.iv16))).symm
  exact ⟨nonlinearPass sboxLookup s.tk (phase2Load s.p1k s.iv16), phase2Buffer sboxLookup s.tk s.p1k s.iv16, _,
    exec_phase2 s, hu0, hu1, hu2, hu3, hu4, hu5, hv0, hv1, hv2, hv3, hv4, hv5, phase2_byte0 _ _ _, phase2_byte1 _ _ _,
    phase2_byte2 _ _ _, lo8_ushiftRight_one _, assembleKey_words _ s.tk s.iv16, State.finish_leaveBuffer_frame _⟩

/-- Settles O13: bytes 0, 1 and 2 are functions of IV16 alone, and byte 1 takes the fixed points of `fmsByte`. -/
theorem phase2KeyInvariants : Obligations.Phase2KeyInvariants := by
  unfold Obligations.Phase2KeyInvariants
  refine ⟨?bytes, ?sensitivity, ?range, rfl, ?cleared⟩
  case bytes =>
    intro s t h
    rw [rc4key_of_exec_phase2 h, phase2_byte0, phase2_byte1, phase2_byte2]
    exact ⟨fmsByte_and_0x80 _, fmsByte_and_0x20 _, rfl, rfl, fmsByte_xor_self_and _⟩
  case sensitivity =>
    intro s t s' t' hs ht htk hp1k hiv16 hkey
    rw [rc4key_of_exec_phase2 hs, rc4key_of_exec_phase2 ht, htk, hp1k] at hkey
    exact hiv16 (phase2_iv16_injective _ _ hkey)
  case range =>
    intro b
    constructor
    · rintro ⟨s, t, h, rfl⟩
      rw [rc4key_of_exec_phase2 h, phase2_byte1]
      exact ⟨fmsByte_and_0x80 _, fmsByte_and_0x20 _⟩
    · rintro ⟨h7, h5⟩
      refine ⟨{ State.reset with iv16 := make16 b 0 }, _, exec_phase2 _, ?_⟩
      calc (phase2 State.reset.tk State.reset.p1k (make16 b 0))[1]
        _ = fmsByte (hi8 (make16 b 0)) := phase2_byte1 _ _ _
        _ = b := by rw [hi8_make16, fmsByte_of_forced_bits h7 h5]
  case cleared =>
    intro s t h
    rw [rc4key_of_exec_clr h]
    rfl

end Sys2Proof.Machine
end

section
/-! PROOFS. Acceptance and completion as steps (43_system.md R100 to R103): what every event answers, and the steps of a
CMD write and of the engine. -/

namespace Sys2Proof.Machine

/-! Every event answers a next state and leaves the events to come alone (60_exceptions.md R110). -/

theorem exec_inputs {i : Instr} {s t : State} (h : exec i s = .next t) : t.inputs = s.inputs := by
  rcases exec_cases h with ⟨-, rfl⟩ | ⟨-, rfl⟩ | ⟨-, rfl⟩ | ⟨-, rfl⟩ | ⟨-, rfl⟩ <;> simp

/-- After the engine's move nothing is pending, whether or not a command was. -/
theorem completePending_answers (s : State) :
    ∃ t, completePending s = .next t ∧ t.pending = none ∧ t.inputs = s.inputs := by
  cases hp : s.pending with
  | none => exact ⟨s, completePending_none hp, hp, rfl⟩
  | some op =>
    obtain ⟨t, ht⟩ := exec_next (instrOf op) s
    exact ⟨t, (completePending_some hp).trans ht, (exec_instrOf_ends ht).1, exec_inputs ht⟩

theorem writeCmd_answers (c : Word) (s : State) : ∃ t, writeCmd c s = .next t ∧ t.inputs = s.inputs := by
  cases hd : decodeWord c with
  | error e => exact ⟨_, writeCmd_error hd s, State.raise_ill_inputs s⟩
  | ok i =>
    rw [writeCmd_ok hd]
    cases hi : opOf i with
    | none =>
      rw [(opOf_eq_none i).1 hi]
      exact ⟨s, issue_nop s, rfl⟩
    | some op =>
      rw [(opOf_eq_some i op).1 hi]
      exact ⟨_, issue_op op s, State.accept_inputs op s⟩

theorem regWrite_answers (a : WordAddr) (d : Word) (s : State) :
    ∃ t, regWrite a d s = .next t ∧ t.inputs = s.inputs := by
  by_cases hp : s.pending = none
  · rw [regWrite_idle hp, writeIdle]
    split
    · exact writeCmd_answers d s
    · exact ⟨_, rfl, State.ackStatus_inputs d s⟩
    · exact ⟨_, rfl, State.setCtrl_inputs d s⟩
    · exact ⟨_, rfl, by simp⟩
  · obtain ⟨t, ht, hu⟩ := writeBusy_undisturbed a d s
    exact ⟨t, (regWrite_busy hp a d).trans ht, hu.inputs⟩

theorem handle_answers (e : Event) (s : State) : ∃ t, handle e s = .next t ∧ t.inputs = s.inputs := by
  cases e with
  | complete =>
    obtain ⟨t, ht, -, hi⟩ := completePending_answers s
    exact ⟨t, ht, hi⟩
  | reset => exact ⟨_, rfl, rfl⟩
  | host x =>
    obtain ⟨wr, a, d⟩ := x
    cases wr with
    | false => exact ⟨_, hostTransaction_read a d s, State.putRdata_inputs _ s⟩
    | true => exact regWrite_answers a d s

/-! Runs of steps. -/

/-- A run may be continued at its end. -/
theorem reaches_succ {k : Nat} {s t u : State} (h : Reaches k s t) (hu : step t = .next u) : Reaches (k + 1) s u := by
  induction k generalizing s with
  | zero =>
    obtain rfl : s = t := h
    exact ⟨u, hu, rfl⟩
  | succ k ih =>
    obtain ⟨v, hv, hreach⟩ := h
    exact ⟨v, hv, ih hreach⟩

/-- As many steps as there are events use them up. -/
theorem reaches_no_inputs (s : State) : ∃ t, Reaches s.inputs.length s t ∧ t.inputs = [] := by
  induction hi : s.inputs generalizing s with
  | nil => exact ⟨s, rfl, hi⟩
  | cons e rest ih =>
    obtain ⟨u, hu, hrest⟩ := handle_answers e (s.next rest)
    obtain ⟨t, hreach, ht⟩ := ih u hrest
    exact ⟨t, ⟨u, (step_cons hi).trans hu, hreach⟩, ht⟩

/-! The engine's step, and a CMD write. -/

theorem step_complete {s : State} {op : Op} {rest : List Event} (hp : s.pending = some op)
    (hi : s.inputs = .complete :: rest) : step s = exec (instrOf op) (s.next rest) :=
  (step_cons hi).trans (completePending_some hp)

/-- With no event left the engine moves (log 2). -/
theorem step_complete_of_no_inputs {s : State} {op : Op} (hp : s.pending = some op) (hi : s.inputs = []) :
    step s = exec (instrOf op) (s.next []) :=
  (step_nil hi).trans (completePending_some hp)

/-- A CMD write on an idle block whose word decodes issues the command. -/
theorem regWrite_cmd_idle {s : State} {c : Word} {i : Instr} (hp : s.pending = none) (hd : decodeWord c = .ok i) :
    regWrite 0x00 c s = issue i s := by
  rw [regWrite_idle hp, writeIdle_cmd rfl, writeCmd_ok hd]

/-- A CMD write of NOP's word on an idle block. -/
theorem step_cmdWrite_nop {s : State} {c : Word} {rest : List Event} (hp : s.pending = none)
    (hi : s.inputs = .host ⟨true, 0x00, c⟩ :: rest) (hd : decodeWord c = .ok .nop) : step s = .next (s.next rest) := by
  rw [step_write hi, regWrite_cmd_idle (s := s.next rest) hp hd, issue_nop]

/-- Acceptance: a CMD write of any other command's word on an idle block. -/
theorem step_cmdWrite_op {s : State} {c : Word} {op : Op} {rest : List Event} (hp : s.pending = none)
    (hi : s.inputs = .host ⟨true, 0x00, c⟩ :: rest) (hd : decodeWord c = .ok (instrOf op)) :
    step s = .next ((s.next rest).accept op) := by
  rw [step_write hi, regWrite_cmd_idle (s := s.next rest) hp hd, issue_op]

/-- A placed row of a command that becomes pending stands accepted, its completion next (log 8). -/
theorem withFetchWord_encode_instrOf (s : State) (op : Op) :
    s.withFetchWord 32 (encode (instrOf op)).toNat = { s.accept op with inputs := .complete :: s.inputs } := by
  have hdecode : (decodeTableWord 32 (encode (instrOf op)).toNat).bind opOf = some op := by
    rw [decodeTableWord_toNat, decodeWord_encode]
    exact opOf_instrOf op
  rw [State.withFetchWord, placeCommand, hdecode]

/-- Taking an event changes nothing else when there is no read data to drop. -/
theorem State.next_of_no_rdata {s : State} (h : s.rdata = none) (rest : List Event) :
    s.next rest = { s with inputs := rest } := by
  rw [State.next, ← h]

/-! CLR, and the writes of STATUS and CTRL. -/

theorem exec_clr (s : State) : exec .clr s = .next s.clearData.finish := rfl

theorem clr_sameData_reset (s : State) : SameData s.clearData.finish State.reset :=
  ⟨rfl, rfl, rfl, rfl, rfl, rfl, rfl, rfl⟩

/-- Write one to clear, flag by flag (R105). -/
theorem State.ackStatus_eq_ite (d : Word) (s : State) :
    s.ackStatus d = { s with
      done := if d.getLsbD 1 then false else s.done
      ill := if d.getLsbD 2 then false else s.ill
      werr := if d.getLsbD 3 then false else s.werr } := by
  have hclear : ∀ flag bit : Bool, (flag && !bit) = if bit then false else flag := by decide
  simp only [State.ackStatus, hclear]

/-- CTRL reads back the two bits that its write keeps (R106). -/
theorem ctrlWord_setCtrl (d : Word) (s : State) : (s.setCtrl d).ctrlWord = d &&& 0x00000003 := by
  have henables : BitVec.ofBool (d.getLsbD 1) ++ BitVec.ofBool (d.getLsbD 0) = d.extractLsb' 0 2 := by
    rw [ofBool_getLsbD, ofBool_getLsbD]
    exact BitVec.extractLsb'_append_extractLsb'_eq_extractLsb' rfl
  have hlt : d.toNat % 2 ^ 2 < 2 ^ 32 := by omega
  rw [State.ctrlWord, State.setCtrl_ieErr, State.setCtrl_ieDone, henables]
  apply BitVec.eq_of_toNat_eq
  rw [BitVec.toNat_and, BitVec.toNat_setWidth, BitVec.extractLsb'_toNat, Nat.shiftRight_zero, Nat.mod_eq_of_lt hlt]
  exact (Nat.and_two_pow_sub_one_eq_mod _ 2).symm

end Sys2Proof.Machine
end

section
/-! PROOFS. Commands at clock edges (43_system.md R102; 20_memory.md R51): the engine counts edges, and the host's
transactions on them do not disturb it. -/

namespace Sys2Proof.Machine

theorem Undisturbed.trans {s t u : State} (h : Undisturbed u t) (h' : Undisturbed t s) : Undisturbed u s where
  pending := h.pending.trans h'.pending
  data := h.data.trans h'.data
  w := h.w.trans h'.w
  inputs := h.inputs.trans h'.inputs

theorem undisturbed_next_self (s : State) : Undisturbed (s.next s.inputs) s := by
  constructor <;> simp [SameData]

theorem due_eq_decide {c : Clocked} {op : Op} (hp : c.state.pending = some op) (lat : Op → Nat) :
    c.due lat = decide (lat op ≤ c.age + 1) := by
  simp [Clocked.due, hp]

theorem due_of_idle {c : Clocked} (hp : c.state.pending = none) (lat : Op → Nat) : c.due lat = false := by
  simp [Clocked.due, hp]

theorem nextAge_of_idle {c : Clocked} (hp : c.state.pending = none) (lat : Op → Nat) (p : Pins) :
    c.nextAge lat p = 0 := by
  simp [Clocked.nextAge, (State.not_busy_iff c.state).2 hp]

theorem nextAge_of_not_due {c : Clocked} {op : Op} {lat : Op → Nat} {p : Pins} (hp : c.state.pending = some op)
    (hr : p.rstN = true) (hdue : c.due lat = false) : c.nextAge lat p = c.age + 1 := by
  simp [Clocked.nextAge, (State.busy_iff c.state).2 ⟨op, hp⟩, hr, hdue]

/-- On an edge out of reset a BUSY block takes the transaction, if there is one, without being disturbed; what is left
of the edge is the completion, if it is due. -/
theorem handleAll_edgeEvents_busy {p : Pins} (hr : p.rstN = true) (due : Bool) {s : State} (hp : s.pending ≠ none) :
    ∃ u, Undisturbed u s ∧ handleAll (edgeEvents due p) s = handleAll (if due then [.complete] else []) u := by
  cases hsel : p.sel with
  | false => exact ⟨s, ⟨rfl, by simp [SameData], rfl, rfl⟩, by simp [edgeEvents, hr, hsel]⟩
  | true =>
    obtain ⟨u, hx, hu⟩ := hostTransaction_undisturbed p.txn hp
    have hevents : edgeEvents due p = .host p.txn :: if due then [.complete] else [] := by simp [edgeEvents, hr, hsel]
    have hhost : handle (.host p.txn) s = .next u := hx
    exact ⟨u, hu, by rw [hevents, handleAll_cons hhost]⟩

/-- The edge of a BUSY block is what is left of it after the transaction. -/
theorem clockEdge_busy {lat : Op → Nat} {p : Pins} {c : Clocked} (hp : c.state.pending ≠ none) (hr : p.rstN = true) :
    ∃ u, Undisturbed u c.state ∧ ∀ t, handleAll (if c.due lat then [.complete] else []) u = .next t →
      clockEdge lat p c = .next ⟨t, c.nextAge lat p⟩ := by
  obtain ⟨u, hu, hall⟩ := handleAll_edgeEvents_busy hr (c.due lat) (s := c.state.next c.state.inputs) hp
  refine ⟨u, hu.trans (undisturbed_next_self c.state), fun t ht => ?_⟩
  rw [clockEdge, hall, ht]

/-- An edge on which the pending command is not due: it stays pending, one edge older. -/
theorem clockEdge_not_due {lat : Op → Nat} {p : Pins} {c : Clocked} {op : Op} (hp : c.state.pending = some op)
    (hr : p.rstN = true) (hage : c.age + 1 < lat op) :
    ∃ u, clockEdge lat p c = .next ⟨u, c.age + 1⟩ ∧ Undisturbed u c.state := by
  have hdue : c.due lat = false := by simpa [due_eq_decide hp] using hage
  obtain ⟨u, hu, hedge⟩ := clockEdge_busy (lat := lat) (c := c) (by simp [hp]) hr
  refine ⟨u, ?_, hu⟩
  rw [hedge u (by simp [hdue, handleAll]), nextAge_of_not_due hp hr hdue]

/-- An edge on which it is due: it is executed on an undisturbed state. -/
theorem clockEdge_completes {lat : Op → Nat} {p : Pins} {c : Clocked} {op : Op} (hp : c.state.pending = some op)
    (hr : p.rstN = true) (hage : lat op ≤ c.age + 1) :
    ∃ c' u, clockEdge lat p c = .next c' ∧ Undisturbed u c.state ∧ exec (instrOf op) u = .next c'.state := by
  have hdue : c.due lat = true := by simpa [due_eq_decide hp] using hage
  obtain ⟨u, hu, hedge⟩ := clockEdge_busy (lat := lat) (c := c) (by simp [hp]) hr
  obtain ⟨t, ht⟩ := exec_next (instrOf op) u
  have hcomplete : handle .complete u = .next t := (completePending_some (hu.pending.trans hp)).trans ht
  have hall : handleAll (if c.due lat then [.complete] else []) u = .next t := by
    rw [hdue, if_pos rfl, handleAll_cons hcomplete, handleAll]
  exact ⟨_, u, hedge t hall, hu, ht⟩

/-- The edge of a command's CMD write on an idle block. -/
theorem clockEdge_accepts {c : Clocked} (hp : c.state.pending = none) (lat : Op → Nat) (op : Op) :
    clockEdge lat ⟨true, true, ⟨true, 0x00, encode (instrOf op)⟩⟩ c =
      .next ⟨(c.state.next c.state.inputs).accept op, 0⟩ := by
  have haccept : handle (.host ⟨true, 0x00, encode (instrOf op)⟩) (c.state.next c.state.inputs) =
      .next ((c.state.next c.state.inputs).accept op) :=
    (regWrite_cmd_idle (s := c.state.next c.state.inputs) hp (decodeWord_encode _)).trans (issue_op op _)
  have hevents : edgeEvents (c.due lat) ⟨true, true, ⟨true, 0x00, encode (instrOf op)⟩⟩ =
      [.host ⟨true, 0x00, encode (instrOf op)⟩] := by
    simp [edgeEvents, due_of_idle hp]
  rw [clockEdge, hevents, handleAll_cons haccept, handleAll, nextAge_of_idle hp]

/-! Several edges. -/

theorem clockEdges_cons {lat : Op → Nat} {p : Pins} {c c' : Clocked} (h : clockEdge lat p c = .next c')
    (ps : List Pins) : clockEdges lat (p :: ps) c = clockEdges lat ps c' := by
  simp [clockEdges, h]

theorem clockEdges_concat {lat : Op → Nat} {ps : List Pins} {p : Pins} {c c' c'' : Clocked}
    (h : clockEdges lat ps c = .next c') (hp : clockEdge lat p c' = .next c'') :
    clockEdges lat (ps ++ [p]) c = .next c'' := by
  induction ps generalizing c with
  | nil =>
    cases h
    exact clockEdges_cons hp []
  | cons q ps ih =>
    cases hq : clockEdge lat q c with
    | next d =>
      rw [clockEdges_cons hq] at h
      rw [List.cons_append, clockEdges_cons hq, ih h]
    | fault r => simp [clockEdges, hq] at h
    | refused r => simp [clockEdges, hq] at h

/-- Fewer edges than the latency leave the command pending, that many edges older. -/
theorem clockEdges_not_due {lat : Op → Nat} {ps : List Pins} {c : Clocked} {op : Op} (hp : c.state.pending = some op)
    (hr : ∀ p ∈ ps, p.rstN = true) (hage : c.age + ps.length < lat op) :
    ∃ u, clockEdges lat ps c = .next ⟨u, c.age + ps.length⟩ ∧ Undisturbed u c.state := by
  induction ps generalizing c with
  | nil => exact ⟨c.state, rfl, ⟨rfl, by simp [SameData], rfl, rfl⟩⟩
  | cons p ps ih =>
    rw [List.length_cons] at hage ⊢
    obtain ⟨v, hedge, hv⟩ := clockEdge_not_due hp (hr p (.head ps)) (by omega : c.age + 1 < lat op)
    obtain ⟨u, hedges, hu⟩ := ih (c := ⟨v, c.age + 1⟩) (hv.pending.trans hp) (fun q hq => hr q (.tail p hq))
      (by dsimp only; omega)
    refine ⟨u, ?_, hu.trans hv⟩
    rw [clockEdges_cons hedge, hedges, Nat.add_right_comm, Nat.add_assoc]

/-- The edge that makes up the latency, the last one, completes the command. -/
theorem clockEdges_completes {lat : Op → Nat} {ps : List Pins} {c : Clocked} {op : Op} (hp : c.state.pending = some op)
    (hr : ∀ p ∈ ps, p.rstN = true) (hlt : c.age < lat op) (hlen : c.age + ps.length = lat op) :
    ∃ c' u, clockEdges lat ps c = .next c' ∧ Undisturbed u c.state ∧ exec (instrOf op) u = .next c'.state := by
  obtain rfl | ⟨qs, p, rfl⟩ := List.eq_nil_or_concat' ps
  · exact absurd hlen hlt.ne
  · rw [List.length_append, List.length_singleton, ← Nat.add_assoc] at hlen
    obtain ⟨b, hedges, hb⟩ := clockEdges_not_due hp (fun q hq => hr q (List.mem_append_left _ hq))
      (by omega : c.age + qs.length < lat op)
    obtain ⟨c', u, hedge, hu, hc'⟩ := clockEdge_completes (c := ⟨b, c.age + qs.length⟩) (hb.pending.trans hp)
      (hr p (List.mem_append_right _ (List.mem_singleton_self p))) hlen.ge
    exact ⟨c', u, clockEdges_concat hedges hedge, hu.trans hb, hc'⟩

end Sys2Proof.Machine
end

section
/-! PROOFS. The statements about the commands' issue and completion, CLR, and the control registers (43_system.md). -/

namespace Sys2Proof.Machine

/-- Settles O43: the traffic does not disturb the engine, and a command's result depends on the data registers alone. -/
theorem resultIndependentOfBusyTraffic : Obligations.ResultIndependentOfBusyTraffic := by
  unfold Obligations.ResultIndependentOfBusyTraffic
  intro s op ts rest hp hi
  obtain ⟨b, hreach, hpb, hdata, -, hrest⟩ := reaches_of_host_events ts hp hi
  obtain ⟨t, ht⟩ := exec_next (instrOf op) (b.next rest)
  obtain ⟨u, hu⟩ := exec_next (instrOf op) s
  have hoperands : SameData (b.next rest) s := hdata
  obtain ⟨hpend, hdone⟩ := exec_instrOf_ends ht
  exact ⟨t, u, reaches_succ hreach ((step_complete hpb hrest).trans ht), hu, exec_sameData hoperands ht hu, hpend,
    hdone, exec_inputs ht⟩

/-- Settles O44: a step takes one event, and with none left the engine's move ends the pending command. -/
theorem everyPendingCommandCompletes : Obligations.EveryPendingCommandCompletes := by
  unfold Obligations.EveryPendingCommandCompletes
  intro s
  obtain ⟨b, hreach, hb⟩ := reaches_no_inputs s
  obtain ⟨t, ht, hpend, hi⟩ := completePending_answers (b.next [])
  exact ⟨t, reaches_succ hreach ((step_nil hb).trans ht), hpend, hi⟩

/-- Settles O46: the cycle count runs from 0 at acceptance, one edge at a time, and the last of LAT edges is the due
one. -/
theorem commandCompletesExactlyAtItsLatency : Obligations.CommandCompletesExactlyAtItsLatency := by
  unfold Obligations.CommandCompletesExactlyAtItsLatency
  intro lat hlat
  refine ⟨fun c op hp => ⟨_, clockEdge_accepts hp lat op, rfl, rfl, by simp [SameData]⟩,
    fun c op ps hp h0 hr => ⟨fun hlt => ?before, fun hlen => ?at_latency⟩⟩
  case before =>
    obtain ⟨u, hedges, hu⟩ := clockEdges_not_due hp hr (by omega : c.age + ps.length < lat op)
    exact ⟨_, hedges, hu.pending.trans hp, by simp [h0], hu.data⟩
  case at_latency =>
    have hpos := hlat op
    obtain ⟨c', u, hedges, hu, hc'⟩ := clockEdges_completes hp hr (by omega : c.age < lat op) (by omega)
    obtain ⟨v, hv⟩ := exec_next (instrOf op) c.state
    obtain ⟨hpend, hdone⟩ := exec_instrOf_ends hc'
    exact ⟨c', v, hedges, hv, exec_sameData hu.data hc' hv, hpend, hdone⟩

/-- Settles O4, by the engine's step with and without a completion event. -/
theorem stepExecutesThePendingCommand : Obligations.StepExecutesThePendingCommand := by
  unfold Obligations.StepExecutesThePendingCommand
  exact fun _ _ hp => ⟨fun _ => step_complete hp, step_complete_of_no_inputs hp⟩

/-- Settles O5: a command other than NOP is that of an operation, which is accepted and then completed. -/
theorem stepRunsTheDecodedCommand : Obligations.StepRunsTheDecodedCommand := by
  unfold Obligations.StepRunsTheDecodedCommand
  intro s c i rest hp hi hd
  constructor
  · rintro rfl
    exact step_cmdWrite_nop hp hi hd
  · intro hne
    obtain ⟨op, hop⟩ := Option.ne_none_iff_exists'.1 (mt (opOf_eq_none i).1 hne)
    obtain rfl := (opOf_eq_some i op).1 hop
    exact ⟨op, hop, step_cmdWrite_op hp hi hd, step_complete rfl rfl⟩

/-- Settles O6: the placed state is the accepted one with its completion next. -/
theorem placedCommandIsTheAcceptedOne : Obligations.PlacedCommandIsTheAcceptedOne := by
  unfold Obligations.PlacedCommandIsTheAcceptedOne
  intro s op hp hr
  rw [withFetchWord_encode_instrOf]
  constructor
  · have haccept := step_cmdWrite_op (s := { s with inputs := cmdWrite (encode (instrOf op)) :: .complete :: s.inputs })
      hp rfl (decodeWord_encode (instrOf op))
    exact haccept.trans
      (congrArg (fun t : State => Host.Outcome.next (t.accept op)) (State.next_of_no_rdata hr (.complete :: s.inputs)))
  · exact (step_complete rfl rfl).trans
      (congrArg (fun t : State => exec (instrOf op) (t.accept op)) (State.next_of_no_rdata hr s.inputs))

/-- Settles O7: the BUSY test comes before the command is looked at, and an issued NOP does nothing. -/
theorem nopChangesNothing : Obligations.NopChangesNothing := by
  unfold Obligations.NopChangesNothing
  refine ⟨fun _ => rfl, fun s rest hi => ⟨fun hp => step_cmdWrite_nop hp hi (decodeWord_encode .nop), fun hp => ?_⟩⟩
  rw [step_write hi, regWrite_busy (s := s.next rest) hp, writeBusy_wblk (by decide)]
  rfl

/-- Settles O11: CLR leaves the data registers of reset, whose values and reads are all zero. -/
theorem clrZeroesKeyAndDataState : Obligations.ClrZeroesKeyAndDataState := by
  unfold Obligations.ClrZeroesKeyAndDataState
  intro s
  obtain ⟨harrays, hta, hp1k, -⟩ := resetValues
  have hw : ∀ k : Fin 6, (#v[0, 0, 0, 0, 0, 0] : Vector Half 6)[k] = 0 := by decide
  have hreads : ∀ a, regAt a ≠ .status → regAt a ≠ .ctrl → regRead a s.clearData.finish = 0 := fun a hs hc =>
    (readReg_of_sameData (clr_sameData_reset s) hs hc).trans (readReg_reset (regAt a))
  exact ⟨_, exec_clr s, harrays, fun k => ⟨hta k, hw k⟩, hp1k, rfl, rfl, rfl, rfl, rfl, rfl, ⟨rfl, rfl, rfl, rfl⟩, rfl,
    rfl, rfl, hreads⟩

/-- Settles O24, by the acknowledgement's effect on each flag. -/
theorem statusWriteOneToClear : Obligations.StatusWriteOneToClear := by
  unfold Obligations.StatusWriteOneToClear
  intro s d rest hi
  rw [step_write hi, regWrite_status rfl, State.ackStatus_eq_ite]
  rfl

/-- Settles O25: the write, the level of `irq` under the new enables, and the readback of its two bits. -/
theorem ctrlWriteSetsEnables : Obligations.CtrlWriteSetsEnables := by
  unfold Obligations.CtrlWriteSetsEnables
  intro s d rest hi
  exact ⟨(s.next rest).setCtrl d, (step_write hi).trans (regWrite_ctrl rfl d _), rfl, rfl, ctrlWord_setCtrl d _⟩

end Sys2Proof.Machine
end

section
/-! PROOFS. The check values of the ROM file (spec/44_sbox_rom.md R78, R79). Only SBOX0's XOR, the two sums and single
entries are evaluated; what else is said of SBOX1 follows from SBOX0, by the byte swap of R73. -/

namespace Sys2Proof.Machine

theorem byteSwap_injective : Function.Injective byteSwap :=
  Function.LeftInverse.injective byteSwap_byteSwap

/-- The byte swap of a XOR of entries is the XOR of the swapped entries. -/
theorem foldl_xor_map_byteSwap (l : List Half) (v : Half) :
    (l.map byteSwap).foldl (· ^^^ ·) (byteSwap v) = byteSwap (l.foldl (· ^^^ ·) v) := by
  rw [List.foldl_map]
  exact List.foldl_hom byteSwap fun v w => (byteSwap_xor v w).symm

/-! The tables as lists. -/

theorem sbox1Table_length : sbox1Table.length = 256 := by
  rw [sbox1Table_eq_map_byteSwap, List.length_map, sbox0Table_length]

theorem sbox1Table_nodup : sbox1Table.Nodup := by
  rw [sbox1Table_eq_map_byteSwap]
  exact sbox0Table_nodup.map byteSwap_injective

theorem sbox0Table_sum : (sbox0Table.map BitVec.toNat).sum = 8388480 := by decide +kernel

theorem sbox1Table_sum : (sbox1Table.map BitVec.toNat).sum = 8388480 := by decide +kernel

theorem sbox0Table_xor : sbox0Table.foldl (· ^^^ ·) 0 = 0 := by decide +kernel

theorem sbox1Table_xor : sbox1Table.foldl (· ^^^ ·) 0 = 0 := by
  have hzero : byteSwap 0 = 0 := by decide
  calc sbox1Table.foldl (· ^^^ ·) 0 = (sbox0Table.map byteSwap).foldl (· ^^^ ·) (byteSwap 0) := by
        rw [sbox1Table_eq_map_byteSwap, hzero]
    _ = byteSwap (sbox0Table.foldl (· ^^^ ·) 0) := foldl_xor_map_byteSwap sbox0Table 0
    _ = 0 := by rw [sbox0Table_xor, hzero]

/-! The tables as functions of the index: each takes the value 0 at 0x52, and being injective nowhere else. -/

theorem sbox1_injective : Function.Injective sbox1 := by
  rw [show sbox1 = byteSwap ∘ sbox0 from funext sbox1_eq_byteSwap]
  exact byteSwap_injective.comp sbox0_injective

theorem sbox0_eq_zero_iff (b : Byte) : sbox0 b = 0 ↔ b = 0x52 :=
  sbox0_injective.eq_iff' (by decide)

theorem sbox1_eq_zero_iff (b : Byte) : sbox1 b = 0 ↔ b = 0x52 :=
  sbox1_injective.eq_iff' (by decide)

/-- Settles O17: the list facts, the zero entry, the seven evaluated values, and the byte swap. -/
theorem romCheckValues : Obligations.RomCheckValues := by
  unfold Obligations.RomCheckValues
  refine ⟨sbox0Table_length, sbox1Table_length, sbox0Table_nodup, sbox1Table_nodup, sbox0Table_sum, sbox1Table_sum,
    sbox0Table_xor, sbox1Table_xor, sbox0_eq_zero_iff, sbox1_eq_zero_iff, ?entries⟩
  case entries =>
    exact ⟨by decide, by decide, by decide, by decide, by decide, by decide, by decide, sbox1_eq_byteSwap⟩

end Sys2Proof.Machine
end

section
/-! PROOFS. The exceptions of the block (60_exceptions.md): no step stops, an illegal command and a raised condition set
their flag alone, and the level of `irq` under acceptance and acknowledgement. -/

namespace Sys2Proof.Machine

/-! No dead end. -/

/-- Settles O35: with an event left the step answers it, and with none left it is the engine's move. -/
theorem everyStepAnswersNext : Obligations.EveryStepAnswersNext := by
  unfold Obligations.EveryStepAnswersNext
  intro s
  cases hi : s.inputs with
  | nil =>
    obtain ⟨t, ht, -, hrest⟩ := completePending_answers (s.next [])
    exact ⟨t, (step_nil hi).trans ht, hrest⟩
  | cons e rest =>
    obtain ⟨t, ht, hrest⟩ := handle_answers e (s.next rest)
    exact ⟨t, (step_cons hi).trans ht, hrest⟩

/-! An illegal command. -/

/-- Every word from 5 on is refused, for one of the two reasons of R63. -/
theorem exists_decodeWord_error {c : Word} (h : 5 ≤ c.toNat) : ∃ e, decodeWord c = .error e := by
  rcases Nat.lt_or_ge c.toNat 256 with hsmall | hbig
  · exact ⟨_, (decodeWord_eq_unassignedOpcode_iff c).2 ⟨h, hsmall⟩⟩
  · exact ⟨_, (decodeWord_eq_reservedBits_iff c).2 hbig⟩

/-- A CMD write on an idle block of a word that is no command raises ILL (R111). -/
theorem step_cmdWrite_error {s : State} {c : Word} {e : DecodeError} {rest : List Event} (hp : s.pending = none)
    (hi : s.inputs = .host ⟨true, 0x00, c⟩ :: rest) (hd : decodeWord c = .error e) :
    step s = .next ((s.next rest).raise .illegalCommand) := by
  rw [step_write hi, regWrite_idle (s := s.next rest) hp, writeIdle_cmd rfl, writeCmd_error hd]

/-- Settles O28: a word of 5 or more does not decode, so the write raises ILL. -/
theorem illegalCommandSetsIllOnly : Obligations.IllegalCommandSetsIllOnly := by
  unfold Obligations.IllegalCommandSetsIllOnly
  intro s c rest hp hi hc
  obtain ⟨e, hd⟩ := exists_decodeWord_error hc
  exact step_cmdWrite_error hp hi hd

/-! The level of `irq`. -/

/-- The enabled sources (R114). -/
theorem State.irq_iff (s : State) :
    s.irq = true ↔ (s.ieDone = true ∧ s.done = true) ∨ (s.ieErr = true ∧ (s.ill = true ∨ s.werr = true)) := by
  simp only [State.irq, Bool.or_eq_true, Bool.and_eq_true]

/-- Acceptance clears DONE, so only the error sources are left. -/
theorem State.irq_accept_iff (op : Op) (s : State) :
    (s.accept op).irq = true ↔ s.ieErr = true ∧ (s.ill = true ∨ s.werr = true) := by
  simp [State.irq_iff]

/-- The bits of a mask are set in every word that contains it. -/
theorem getLsbD_of_and_eq {n : Nat} {d m : BitVec n} (h : d &&& m = m) {i : Nat} (hi : m.getLsbD i = true) :
    d.getLsbD i = true := by
  rw [← h, BitVec.getLsbD_and, Bool.and_eq_true] at hi
  exact hi.1

/-- An acknowledgement of DONE, ILL and WERR leaves no source (R115). -/
theorem State.irq_ackStatus_all {d : Word} (h : d &&& 0xE = 0xE) (s : State) : (s.ackStatus d).irq = false := by
  have hdone : d.getLsbD 1 = true := getLsbD_of_and_eq h (by decide)
  have hill : d.getLsbD 2 = true := getLsbD_of_and_eq h (by decide)
  have hwerr : d.getLsbD 3 = true := getLsbD_of_and_eq h (by decide)
  simp [State.irq, hdone, hill, hwerr]

/-- Every command but NOP is that of an operation. -/
theorem exists_eq_instrOf {i : Instr} (h : i ≠ .nop) : ∃ op, i = instrOf op := by
  obtain ⟨op, hop⟩ := Option.ne_none_iff_exists'.1 (mt (opOf_eq_none i).1 h)
  exact ⟨op, (opOf_eq_some i op).1 hop⟩

/-- Settles O26, from the level after an acknowledgement and after an acceptance. -/
theorem interruptLevelAndClearing : Obligations.InterruptLevelAndClearing := by
  unfold Obligations.InterruptLevelAndClearing
  refine ⟨State.irq_iff, ?acknowledged, ?accepted⟩
  case acknowledged =>
    intro s t d rest hi hd h
    rw [step_write hi, regWrite_status rfl] at h
    cases h
    exact State.irq_ackStatus_all hd _
  case accepted =>
    intro s t i rest hp hi hne h
    obtain ⟨op, rfl⟩ := exists_eq_instrOf hne
    rw [step_cmdWrite_op hp hi (decodeWord_encode _)] at h
    cases h
    exact State.irq_accept_iff op (s.next rest)

/-! Raising an error condition: what it sets, and what it leaves alone. -/

theorem raise_sameData (e : ErrorCondition) (s : State) : SameData (s.raise e) s := by
  cases e <;> simp [SameData]

theorem State.raise_ctrlWord (e : ErrorCondition) (s : State) : (s.raise e).ctrlWord = s.ctrlWord := by
  cases e <;> rfl

/-- STATUS as a function of its four flags (20_memory.md R45). -/
def statusBits (werr ill done busy : Bool) : Word :=
  (BitVec.ofBool werr ++ BitVec.ofBool ill ++ BitVec.ofBool done ++ BitVec.ofBool busy).setWidth 32

theorem State.statusWord_eq_statusBits (s : State) : s.statusWord = statusBits s.werr s.ill s.done s.busy := rfl

theorem statusBits_ill : ∀ werr ill done busy : Bool,
    statusBits werr true done busy = statusBits werr ill done busy ||| (1#32 <<< causeCode .illegalCommand) := by
  decide

theorem statusBits_werr : ∀ werr ill done busy : Bool,
    statusBits true ill done busy = statusBits werr ill done busy ||| (1#32 <<< causeCode .writeWhileBusy) := by
  decide

/-- The flag of each condition stands in STATUS at the bit of its cause code (R110). -/
theorem State.raise_statusWord (e : ErrorCondition) (s : State) :
    (s.raise e).statusWord = s.statusWord ||| (1#32 <<< causeCode e) := by
  rw [State.statusWord_eq_statusBits, State.statusWord_eq_statusBits, State.raise_busy]
  cases e with
  | illegalCommand => exact statusBits_ill s.werr s.ill s.done s.busy
  | writeWhileBusy => exact statusBits_werr s.werr s.ill s.done s.busy

/-- No register but STATUS shows an error condition. -/
theorem readReg_raise_of_ne {r : Reg} (h : r ≠ .status) (e : ErrorCondition) (s : State) :
    readReg r (s.raise e) = readReg r s := by
  by_cases hc : r = .ctrl
  · subst hc
    exact State.raise_ctrlWord e s
  · exact readReg_of_sameData (raise_sameData e s) h hc

/-- Either condition is a source of `irq` under IE_ERR. -/
theorem State.raise_irq (e : ErrorCondition) (s : State) : (s.raise e).irq = (s.irq || s.ieErr) := by
  have raised : (s.raise e).ill = true ∨ (s.raise e).werr = true := by cases e <;> simp
  have kept : (s.raise e).ieDone = s.ieDone ∧ (s.raise e).done = s.done ∧ (s.raise e).ieErr = s.ieErr := by
    cases e <;> simp
  obtain ⟨hieDone, hdone, hieErr⟩ := kept
  rw [Bool.eq_iff_iff, Bool.or_eq_true, State.irq_iff, State.irq_iff, hieDone, hdone, hieErr]
  tauto

theorem State.raise_pending (e : ErrorCondition) (s : State) : (s.raise e).pending = s.pending := by
  cases e <;> rfl

theorem State.raise_w (e : ErrorCondition) (s : State) : (s.raise e).w = s.w := by
  cases e <;> rfl

/-- Settles O30, register by register: the cause bit in STATUS, the frame, and the level of `irq`. -/
theorem raisingSetsTheCauseBitOnly : Obligations.RaisingSetsTheCauseBitOnly := by
  unfold Obligations.RaisingSetsTheCauseBitOnly
  exact fun e s => ⟨State.raise_statusWord e s,
    fun a ha => readReg_raise_of_ne (mt (regAt_eq_status_iff a).1 ha) e s,
    State.raise_irq e s, State.raise_pending e s, State.raise_w e s⟩

end Sys2Proof.Machine
end

section
/-! PROOFS. Reset and hazards (70_reset_and_hazards.md): what a reset leaves, as an event and at the pins, what ends a
pending command, and how long a Phase-1 key stays current. -/

namespace Sys2Proof.Machine

/-! The state a reset leaves (R130). -/

theorem State.applyReset_sameData (s : State) : SameData s.applyReset State.reset := by simp [SameData]

theorem State.applyReset_sameControl (s : State) : SameControl s.applyReset State.reset := by simp [SameControl]

theorem State.applyReset_irq (s : State) : s.applyReset.irq = false := rfl

/-- No register shows the fields that a reset event keeps. -/
theorem readReg_applyReset (r : Reg) (s : State) : readReg r s.applyReset = readReg r State.reset := by
  cases r <;> rfl

theorem regRead_applyReset (a : WordAddr) (s : State) : regRead a s.applyReset = 0 :=
  (readReg_applyReset (regAt a) s).trans (readReg_reset (regAt a))

theorem step_reset {s : State} {rest : List Event} (hi : s.inputs = .reset :: rest) :
    step s = .next (s.next rest).applyReset :=
  step_cons hi

/-- An edge in reset is the reset event alone, whatever the transaction pins carry. -/
theorem clockEdge_reset {p : Pins} (hr : p.rstN = false) (lat : Op → Nat) (c : Clocked) :
    clockEdge lat p c = .next ⟨(c.state.next c.state.inputs).applyReset, 0⟩ := by
  have hevents : edgeEvents (c.due lat) p = [.reset] := by simp [edgeEvents, hr]
  have hreset : handle .reset (c.state.next c.state.inputs) = .next (c.state.next c.state.inputs).applyReset := rfl
  have hage : c.nextAge lat p = 0 := by simp [Clocked.nextAge, hr]
  rw [clockEdge, hevents, handleAll_cons hreset, handleAll, hage]

/-! The steps of a BUSY block, and of its completion. -/

/-- The block has one pending command, so only that one can complete. -/
theorem NextCompletes.op_eq {s : State} {op op' : Op} (h : NextCompletes s op) (hp : s.pending = some op') : op = op' :=
  Option.some.inj (h.1.symm.trans hp)

theorem NextCompletes.step_eq {s : State} {op : Op} (h : NextCompletes s op) :
    ∃ r, step s = exec (instrOf op) (s.next r) := by
  obtain ⟨hp, hi | ⟨rest, hi⟩⟩ := h
  · exact ⟨[], step_complete_of_no_inputs hp hi⟩
  · exact ⟨rest, step_complete hp hi⟩

/-- A host write on a BUSY block leaves the pending command pending (R47). -/
theorem regWrite_busy_pending {a : WordAddr} {d : Word} {s t : State} (hp : s.pending ≠ none)
    (h : regWrite a d s = .next t) : t.pending = s.pending := by
  obtain ⟨u, hu, hsame⟩ := writeBusy_undisturbed a d s
  rw [regWrite_busy hp, hu] at h
  cases h
  exact hsame.pending

/-! A current Phase-1 key (R137). -/

theorem NextWritesOneOf.mono {s : State} {rs rs' : List Reg} (hrs : rs ⊆ rs') (h : NextWritesOneOf s rs) :
    NextWritesOneOf s rs' := by
  obtain ⟨hp, a, d, hw, ha⟩ := h
  exact ⟨hp, a, d, hw, hrs ha⟩

/-- A register keeps its value over a step that is none of its causes of change. -/
theorem ChangedOnlyBy.step_keeps {α : Type} {f : State → α} {ops : List Op} {rs : List Reg} (hf : ChangedOnlyBy f ops rs)
    {s t : State} (h : step s = .next t) (hops : ∀ op ∈ ops, ¬ NextCompletes s op) (hr : ¬ NextIsReset s)
    (hw : ¬ NextWritesOneOf s rs) : f t = f s := by
  by_contra hne
  rcases hf.step_cause h hne with ⟨op, hop, hc⟩ | hreset | hwrite
  · exact hops op hop hc
  · exact hr hreset
  · exact hw hwrite

theorem p1kCurrent_of_exec_phase1 {s t : State} (h : exec .phase1 s = .next t) : P1kCurrent t := by
  rw [exec_phase1] at h
  cases h
  simp [P1kCurrent]

/-- The operands of PHASE1 and its result are unchanged by any other step than those excluded here; PHASE1 itself makes
the key current again. -/
theorem step_keeps_p1kCurrent {s t : State} (hs : P1kCurrent s) (h : step s = .next t)
    (hw : ¬ NextWritesOneOf s [.tk 0, .tk 1, .tk 2, .tk 3, .ta0, .ta1, .iv32, .p1k0, .p1k1, .p1k2])
    (hclr : ¬ NextCompletes s .clr) (hr : ¬ NextIsReset s) : P1kCurrent t := by
  by_cases hphase1 : NextCompletes s .phase1
  · obtain ⟨r, hstep⟩ := hphase1.step_eq
    exact p1kCurrent_of_exec_phase1 (hstep.symm.trans h)
  · have hclr' : ∀ op ∈ [Op.clr], ¬ NextCompletes s op := by simpa using hclr
    have htk : t.tk = s.tk := tk_changedOnlyBy.step_keeps h hclr' hr (mt (NextWritesOneOf.mono (by decide)) hw)
    have hta : t.ta = s.ta := ta_changedOnlyBy.step_keeps h hclr' hr (mt (NextWritesOneOf.mono (by decide)) hw)
    have hiv32 : t.iv32 = s.iv32 := iv32_changedOnlyBy.step_keeps h hclr' hr (mt (NextWritesOneOf.mono (by decide)) hw)
    have hp1k : t.p1k = s.p1k := p1k_changedOnlyBy.step_keeps h (by simp [hphase1, hclr]) hr
      (mt (NextWritesOneOf.mono (by decide)) hw)
    rw [P1kCurrent, htk, hta, hiv32, hp1k]
    exact hs

/-! The statements. -/

/-- Settles O14: PHASE1 makes the key current, a step that changes none of its operands keeps it so, and PHASE2 then takes
it as its operand. -/
theorem currentP1kGivesThePacketKey : Obligations.CurrentP1kGivesThePacketKey := by
  unfold Obligations.CurrentP1kGivesThePacketKey
  refine ⟨fun _ _ => p1kCurrent_of_exec_phase1, fun _ _ => step_keeps_p1kCurrent, fun s t hs h => ?_⟩
  rw [rc4key_of_exec_phase2 h, hs]

/-- Settles O34, over the four kinds of step: a completion and a reset end the command, a host write is that of a BUSY
block, and a quiet step changes no register. -/
theorem pendingEndsByCompletionOrReset : Obligations.PendingEndsByCompletionOrReset := by
  unfold Obligations.PendingEndsByCompletionOrReset
  intro s t op hp h
  rcases step_kinds h with ⟨op', r, hc, hx⟩ | ⟨hr, r, rfl⟩ | ⟨a, d, r, -, hx⟩ | ⟨-, r, v, rfl⟩
  · obtain rfl := hc.op_eq hp
    obtain ⟨hpend, hdone⟩ := exec_instrOf_ends hx
    exact .inr ⟨hpend, .inr ⟨hc, hdone⟩⟩
  · exact .inr ⟨State.applyReset_pending _, .inl hr⟩
  · exact .inl ((regWrite_busy_pending (s := s.next r) (by simp [hp]) hx).trans hp)
  · exact .inl hp

/-- Settles O33, by the state that the reset event leaves, whatever was pending. -/
theorem resetAbandonsEverything : Obligations.ResetAbandonsEverything := by
  unfold Obligations.ResetAbandonsEverything
  intro s rest hi
  exact ⟨_, step_reset hi, State.applyReset_sameData _, State.applyReset_done _, State.applyReset_sameControl _,
    State.applyReset_pending _, State.applyReset_irq _, State.applyReset_inputs _, fun a => regRead_applyReset a _⟩

/-- Settles O47: the edge is the reset event alone, and the `irq` pin is gated by `rst_n`. -/
theorem resetPinIgnoresTransactions : Obligations.ResetPinIgnoresTransactions := by
  unfold Obligations.ResetPinIgnoresTransactions
  intro lat c p hr
  exact ⟨_, clockEdge_reset hr lat c, State.applyReset_sameData _, State.applyReset_pending _, State.applyReset_done _,
    State.applyReset_sameControl _, rfl, by simp [irqPin, hr]⟩

end Sys2Proof.Machine
end
